-- ==== Sys2Proof/Word.lean ====
section
/-! DEFINITION. The word types of the block: the 8-bit character of every transfer and the 4-bit hex digit value. -/

namespace Sys2Proof

/-- One character on the serial byte boundary, and one element of a frame buffer (R47). -/
abbrev Byte := BitVec 8

/-- The value of one hexadecimal digit (R110). -/
abbrev Nibble := BitVec 4

end Sys2Proof
end

