-- ==== Sys2Proof/Config.lean ====
section
/-! DEFINITION. What an implementation fixes (the parameter table R6), what the environment drives (the input ports
R23), and the free values of the model. -/

namespace Sys2Proof

/-- The configuration structure of R6: every row of its table that is a parameter. `BAUD` and `DATA_BITS` are fixed
numbers (`Config.baud`, `Config.dataBits`); `TEMP_W` and `SP_W` are computed from `tempFrac`. Temperatures and the offset
are signed integers whose width `Config.wf` bounds. -/
structure Config where
  /-- `PREFIX_LEN` -/
  prefixLen : Nat
  /-- `ADDR_PREFIX` -/
  addrPrefix : List Byte
  /-- `PAD_HEX` -/
  padHex : Bool
  /-- `STOP_BITS` -/
  stopBits : Nat
  /-- `AVERAGE_OFFSET` -/
  averageOffset : Int
  /-- `TRIGGER_TEMP`, in units of 2^-TEMP_FRAC -/
  triggerTemp : Int
  /-- `REF_TEMP_DEFAULT`, in units of 2^-TEMP_FRAC -/
  refTempDefault : Int
  /-- `USE_SENSOR` -/
  useSensor : Bool
  /-- `TEMP_FRAC` -/
  tempFrac : Nat
  /-- `SETTLE_TICKS` -/
  settleTicks : Nat
  /-- `RX_DEADLINE_TICKS` -/
  rxDeadlineTicks : Nat
  /-- `ACK_DEADLINE_TICKS` -/
  ackDeadlineTicks : Nat
  /-- `TX_GAP_TICKS` -/
  txGapTicks : Nat
  /-- `IND_HOLD_TICKS` -/
  indHoldTicks : Nat
  /-- `TIMER_W` -/
  timerW : Nat
  /-- the tick period is `tickPeriodUs / tickPeriodDiv` microseconds; no rule reads it (U12). R6 asks only for a positive duration.
  DESIGN CHOICE, log entry 13: a positive rational number of microseconds in lowest terms (1/9600 s is 625 / 6), so that an irrational
  one cannot be given -/
  tickPeriodUs : Nat
  /-- the denominator of the tick period -/
  tickPeriodDiv : Nat
deriving DecidableEq, Repr, Inhabited

/-- `BAUD` (R6, R69). -/
def Config.baud : Nat := 9600

/-- `DATA_BITS` (R6, D2). -/
def Config.dataBits : Nat := 8

/-- `TEMP_W = 16 + TEMP_FRAC` (R6, R130). -/
def Config.tempW (c : Config) : Nat := 16 + c.tempFrac

/-- `SP_W = 33 + TEMP_FRAC` (R18, R135). -/
def Config.spW (c : Config) : Nat := 33 + c.tempFrac

/-- The configuration `State.reset` carries: the spec defaults of R6 where it has them (`PREFIX_LEN`, `ADDR_PREFIX`,
`PAD_HEX`, `TEMP_FRAC`, `TIMER_W`) and, for the OPEN rows that it lists, the common configuration of 95_test_vectors.md Part 3.
Two OPEN rows have a value in neither place and are the model's own choice: `STOP_BITS` is 1, and the tick period is the
suggested 1 ms (D6). DESIGN CHOICE, log entry 13: no statement rests on it, since every statement is about every `cfg`.
Unsafe. -/
def Config.example95 : Config where
  prefixLen := 2
  addrPrefix := [0x41, 0x41]
  padHex := true
  stopBits := 1
  averageOffset := -671
  triggerTemp := 72
  refTempDefault := 25
  useSensor := false
  tempFrac := 0
  settleTicks := 2
  rxDeadlineTicks := 10
  ackDeadlineTicks := 4
  txGapTicks := 1
  indHoldTicks := 1
  timerW := 16
  tickPeriodUs := 1000
  tickPeriodDiv := 1

/-- The input ports of R23 as one vector, sampled at one rising edge of `clk`, with the configuration lines of R22:
`reconfig = none` means the platform holds them, `some c` that they carry `c` from this edge on (R52). -/
structure Inputs where
  rst : Bool
  startReq : Bool
  exitReq : Bool
  tick : Bool
  rxValid : Bool
  rxData : Byte
  rxFerr : Bool
  txDone : Bool
  xportErr : Bool
  /-- `ref_temp`, signed, in units of 2^-TEMP_FRAC -/
  refTemp : Int
  reconfig : Option Config
deriving DecidableEq, Repr, Inhabited

/-- The `IDLE` line of an event script (R74): every input 0, the configuration lines held. -/
def Inputs.idle : Inputs where
  rst := false
  startReq := false
  exitReq := false
  tick := false
  rxValid := false
  rxData := 0
  rxFerr := false
  txDone := false
  xportErr := false
  refTemp := 0
  reconfig := none

/-- FREE VALUE, log entry 2: the input vectors the environment presents after the ones a state lists. The environment is
under no constraint (R91, R175), so this constant has no body: nothing can be proved of what it presents. -/
opaque Config.openInput : Nat → Inputs

/-- FREE VALUE, log entry 16: `decodeReading` applied to four characters of which one is no hex digit "has no defined
value" (R115). -/
opaque Config.nonHexReading : Byte → Byte → Byte → Byte → BitVec 16

end Sys2Proof
end

