-- ==== Sys2Proof/Machine/Operands.lean ====
section
/-! DEFINITION. The combinational functions on characters, digits, frames and temperatures: the acceptance filter, the
lookups, the checksum, the frame fields and the calibrator, each a pure function of its operands (R120, R136). -/

namespace Sys2Proof.Machine

/-- `ACCEPT` (R90, R61): a byte with no framing error whose bits are those of one of the nineteen characters of `W`. -/
def accept (b : Byte) (ferr : Bool) : Bool :=
  !ferr &&
    ((b.extractLsb' 4 4 == 3#4 && decide ((b.extractLsb' 0 4).toNat ≤ 9)) ||
     (b.extractLsb' 4 4 == 4#4 && decide (1 ≤ (b.extractLsb' 0 4).toNat) && decide ((b.extractLsb' 0 4).toNat ≤ 8)) ||
     b == 0x59#8)

/-- `HEXVAL` (R110): whether the character is a hex digit, and its value (0 where it is not). -/
def hexval (c : Byte) : Bool × Nibble :=
  if 0x30 ≤ c.toNat ∧ c.toNat ≤ 0x39 then (true, c.extractLsb' 0 4)
  else if 0x41 ≤ c.toNat ∧ c.toNat ≤ 0x46 then (true, c.extractLsb' 0 4 + 9#4)
  else (false, 0#4)

/-- `HEXCHAR` (R111). -/
def hexchar (v : Nibble) : Byte :=
  if v.toNat ≤ 9 then BitVec.ofNat 8 (0x30 + v.toNat) else BitVec.ofNat 8 (0x37 + v.toNat)

/-- `CHECKSUM` (R112). -/
def checksum (v0 v1 v2 v3 : Nibble) : Byte :=
  hexchar (BitVec.ofNat 4 ((v0.toNat + v1.toNat + v2.toNat + v3.toNat) % 16))

/-- The integrity test of `VERIFYCHECKSUM` (R114) on the five characters `d0 d1 d2 d3 k`. -/
def verifyChars (d0 d1 d2 d3 k : Byte) : Bool :=
  (hexval d0).1 && (hexval d1).1 && (hexval d2).1 && (hexval d3).1 &&
    (checksum (hexval d0).2 (hexval d1).2 (hexval d2).2 (hexval d3).2 == k)

/-- The number four hex digit values stand for, most significant first (R67, R44). -/
def readingOf (v0 v1 v2 v3 : Nibble) : BitVec 16 :=
  BitVec.ofNat 16 (v0.toNat * 4096 + v1.toNat * 256 + v2.toNat * 16 + v3.toNat)

/-- `DECODEREADING` (R115, R67) on the four digit characters; a free value (log entry 16) where one is no hex digit. -/
def decodeChars (d0 d1 d2 d3 : Byte) : BitVec 16 :=
  if (hexval d0).1 && (hexval d1).1 && (hexval d2).1 && (hexval d3).1 then
    readingOf (hexval d0).2 (hexval d1).2 (hexval d2).2 (hexval d3).2
  else Config.nonHexReading d0 d1 d2 d3

/-- Digit `i` of a set-point counted from the least significant: `sp[4i+3 : 4i]` (R68). -/
def spNibble (sp : Nat) (i : Nat) : Nibble := BitVec.ofNat 4 (sp / 16 ^ i % 16)

/-- The four digit characters `h0 h1 h2 h3` of a set-point (R68). -/
def spDigits (sp : Nat) : List Byte :=
  [hexchar (spNibble sp 3), hexchar (spNibble sp 2), hexchar (spNibble sp 1), hexchar (spNibble sp 0)]

/-- The checksum character of a set-point: over its four digits (R64, R116, D5). -/
def spChecksum (sp : Nat) : Byte :=
  checksum (spNibble sp 3) (spNibble sp 2) (spNibble sp 1) (spNibble sp 0)

/-- Leading `'0'` characters removed while more than one element is left (R65, R116, D30). -/
def dropLeadingZeros : List Byte → List Byte
  | [] => []
  | [d] => [d]
  | d :: e :: rest => if d == 0x30#8 then dropLeadingZeros (e :: rest) else d :: e :: rest

/-- `ENCODEOUTBOUND` (R116, R64, R65): the outbound frame of a set-point, `none` for `ValueOutOfRange`. -/
def encodeFrame (cfg : Config) (sp : Int) : Option (List Byte) :=
  if sp < 0 ∨ sp > 65535 then none
  else
    let digits := if cfg.padHex then spDigits sp.toNat else dropLeadingZeros (spDigits sp.toNat)
    some (cfg.addrPrefix ++ [0x48#8, 0x30#8] ++ digits ++ [spChecksum sp.toNat])

/-- `sext_n(v)`: the low `n` bits of `v` read as a two's-complement number (R9). -/
def sext (n : Nat) (v : Int) : Int := Int.bmod v (2 ^ n)

/-- `tdiv(a, b)`: the quotient rounded toward zero (R9, R133). -/
def tdiv (a b : Int) : Int := Int.tdiv a b

/-- `N` of R131: trigger temperature minus offset, scaled by 2^TEMP_FRAC. -/
def spNumerator (cfg : Config) : Int :=
  sext cfg.tempW cfg.triggerTemp - sext 16 cfg.averageOffset * 2 ^ cfg.tempFrac

/-- `D` of R131: reference temperature minus offset, scaled by 2^TEMP_FRAC. -/
def spDivisor (cfg : Config) (tref : Int) : Int :=
  sext cfg.tempW tref - sext 16 cfg.averageOffset * 2 ^ cfg.tempFrac

/-- `COMPUTESETPOINT` (R131, R132): `none` for `DivideByZero`. -/
def computeSetPoint (cfg : Config) (raw : BitVec 16) (tref : Int) : Option Int :=
  if raw = 0 then none
  else if spDivisor cfg tref = 0 then none
  else some (tdiv (raw.toNat * spNumerator cfg) (spDivisor cfg tref))

end Sys2Proof.Machine
end

