-- ==== Sys2Proof/Syntax.lean ====
section
/-! DEFINITION. The rows of spec/opcode_table.json: one constructor of `Instr` per row, and the words their encodings are
written in. -/

namespace Sys2Proof

/-- The eleven values of the sequencer state register (R11). Codes: `SeqState.code` (R70). -/
inductive SeqState where
  | idle | powerUp | awaitInbound | validate | compute | transmit | awaitAck | pass | fail | powerDown | shutdown
deriving DecidableEq, Repr

/-- The three transmit sub-phases (R19, R164). Codes: `TxPhase.code`. -/
inductive TxPhase where
  | enc | char | gap
deriving DecidableEq, Repr

/-- The AttemptResult tag (R20). Codes: `ResultTag.code` (R71). -/
inductive ResultTag where
  | none | pending | passed | failed
deriving DecidableEq, Repr

/-- The seven failure reasons (R190). Codes: `Reason.code` (R72); code 0 means no reason. -/
inductive Reason where
  | incomplete | badSentinel | checksumMismatch | invalidReading | valueOutOfRange | transportError | unverified
deriving DecidableEq, Repr

/-- The "format" column of the opcode table: what a word is a word OF. Words of different formats share bit patterns (the
byte 0x59 is `CH_Y` and `FRAME_ACK`), so a word carries its format. `char8` carries the transport's framing-error flag beside
the byte (R90). -/
inductive Format where
  | char8 (ferr : Bool)
  | frame
  | state4
  | txphase2
  | result2
  | reason3
deriving DecidableEq, Repr

/-- A word: its format and its bytes, first character first (R43, R76). Codes of fewer than 8 bits stand in the low bits of
one byte. -/
structure OpWord where
  format : Format
  bytes : List Byte
deriving DecidableEq, Repr

/-- Why a word decodes to no row. -/
inductive DecodeError where
  /-- a character or code word that is not exactly one byte -/
  | notOneByte
  /-- a code word with a bit set above its register's width -/
  | upperBitsSet
  /-- transmit phase code 3, "unused, unreachable" (opcode table, `TXPH_*`) -/
  | unusedPhaseCode
  /-- bytes that fit no frame row of their length -/
  | noSuchFrame
deriving DecidableEq, Repr

/-- The rows of spec/opcode_table.json, in the table's order. -/
inductive Instr where
  -- accepted characters (R60) and noise (R62)
  | ch0 | ch1 | ch2 | ch3 | ch4 | ch5 | ch6 | ch7 | ch8 | ch9
  | chA | chB | chC | chD | chE | chF | chG | chH | chY
  | noise (b : Byte) (ferr : Bool)
  -- frames (R63 to R66)
  | frameInbound (d0 d1 d2 d3 k : Byte)
  | frameOutboundPadP0 (h0 h1 h2 h3 k : Byte)
  | frameOutboundUnpadP0D1 (h3 k : Byte)
  | frameOutboundUnpadP0D2 (h2 h3 k : Byte)
  | frameOutboundUnpadP0D3 (h1 h2 h3 k : Byte)
  | frameOutboundPadP1 (p h0 h1 h2 h3 k : Byte)
  | frameOutboundUnpadP1D1 (p h3 k : Byte)
  | frameOutboundUnpadP1D2 (p h2 h3 k : Byte)
  | frameOutboundUnpadP1D3 (p h1 h2 h3 k : Byte)
  | frameOutboundPadP2 (p q h0 h1 h2 h3 k : Byte)
  | frameOutboundUnpadP2D1 (p q h3 k : Byte)
  | frameOutboundUnpadP2D2 (p q h2 h3 k : Byte)
  | frameOutboundUnpadP2D3 (p q h1 h2 h3 k : Byte)
  | frameAck
  -- datapath operations (R75): no opcode bits
  | accept (b : Byte) (ferr : Bool)
  | rxchar
  | readframe (expected deadline : Nat)
  | hexval (c : Byte)
  | hexchar (v : Nibble)
  | checksum (v0 v1 v2 v3 : Nibble)
  | decodeinbound
  | verifychecksum
  | decodereading
  | encodeoutbound (sp : Int)
  | computesetpoint (raw : BitVec 16) (tref : Int)
  | txchar
  | writeframe
  | settxline (active : Bool)
  -- sequencer states (R70, R159 to R169)
  | stIdle | stPowerup | stAwaitinbound | stValidate | stCompute | stTransmit | stAwaitack | stPass | stFail
  | stPowerdown | stShutdown
  | stUnused (code : BitVec 4)
  -- transmit phases (R164)
  | txphEnc | txphChar | txphGap
  -- result codes (R71)
  | resNone | resPending | resPassed | resFailed
  -- reason codes (R72)
  | rsnNone | rsnIncomplete | rsnBadsentinel | rsnChecksummismatch | rsnInvalidreading | rsnValueoutofrange
  | rsnTransporterror | rsnUnverified
deriving DecidableEq, Repr

end Sys2Proof
end

