-- ==== Sys2Proof/WellFormed.lean ====
section
/-! DEFINITION. What a legal configuration is (R6, R7) and what a legal instance of each row is (the "legal values" columns of
R60 to R66). The checks are Bools, so that they evaluate. -/

namespace Sys2Proof

open Machine

/-- The value is representable as an `n`-bit two's-complement number. -/
def fitsSigned (n : Nat) (v : Int) : Bool := sext n v == v

/-- The tick count fits the timer (R7). -/
def Config.tickFits (c : Config) (n : Nat) : Bool := decide (n < 2 ^ c.timerW)

/-- The constraints of R6 and R7 that the block's own parameters show. The remaining one, that `TX_GAP_TICKS` is long enough
for the device's receive buffer, is a premise about the device (R142): `Config.gapLongEnough`. -/
def Config.wf (c : Config) : Bool :=
  decide (c.prefixLen ≤ 2) &&
  decide (c.addrPrefix.length = c.prefixLen) &&
  c.addrPrefix.all (fun b => accept b false) &&
  (c.stopBits == 1 || c.stopBits == 2) &&
  fitsSigned 16 c.averageOffset &&
  fitsSigned c.tempW c.triggerTemp &&
  fitsSigned c.tempW c.refTempDefault &&
  c.tickFits c.settleTicks &&
  c.tickFits c.rxDeadlineTicks &&
  c.tickFits c.ackDeadlineTicks &&
  c.tickFits c.txGapTicks &&
  c.tickFits c.indHoldTicks &&
  decide (0 < c.tickPeriodUs) &&
  decide (0 < c.tickPeriodDiv) &&
  decide (c.tickPeriodUs.gcd c.tickPeriodDiv = 1)

/-- The platform's constraint of R7, R142, R226: the gap lasts at least the delay the device's receive buffer tolerates. The
block cannot check it; the tolerated delay is the device's, here `toleratedUs / toleratedDiv` microseconds. -/
def Config.gapLongEnough (c : Config) (toleratedUs toleratedDiv : Nat) : Bool :=
  decide (toleratedUs * c.tickPeriodDiv ≤ c.txGapTicks * c.tickPeriodUs * toleratedDiv)

/-- Every one of the digit characters is a hex digit. -/
def hexDigits (ds : List Byte) : Bool := ds.all (fun d => (hexval d).1)

/-- The checksum character of a frame's digit characters, missing leading digits counting 0 (R64, R65). -/
def frameSumOk (d0 d1 d2 d3 k : Byte) : Bool :=
  k == checksum (hexval d0).2 (hexval d1).2 (hexval d2).2 (hexval d3).2

/-- The legal instances of a row: operand characters in the sets of R62 to R66, the read lengths of R93, the unused codes
of R70. -/
def Instr.wf : Instr → Bool
  | .noise b ferr => !Machine.accept b ferr
  | .frameInbound d0 d1 d2 d3 k => hexDigits [d0, d1, d2, d3] && frameSumOk d0 d1 d2 d3 k
  | .frameOutboundPadP0 h0 h1 h2 h3 k => hexDigits [h0, h1, h2, h3] && frameSumOk h0 h1 h2 h3 k
  | .frameOutboundUnpadP0D1 h3 k => hexDigits [h3] && frameSumOk 0x30 0x30 0x30 h3 k
  | .frameOutboundUnpadP0D2 h2 h3 k => hexDigits [h2, h3] && h2 != 0x30 && frameSumOk 0x30 0x30 h2 h3 k
  | .frameOutboundUnpadP0D3 h1 h2 h3 k => hexDigits [h1, h2, h3] && h1 != 0x30 && frameSumOk 0x30 h1 h2 h3 k
  | .frameOutboundPadP1 p h0 h1 h2 h3 k => Machine.accept p false && hexDigits [h0, h1, h2, h3] && frameSumOk h0 h1 h2 h3 k
  | .frameOutboundUnpadP1D1 p h3 k => Machine.accept p false && hexDigits [h3] && frameSumOk 0x30 0x30 0x30 h3 k
  | .frameOutboundUnpadP1D2 p h2 h3 k =>
      Machine.accept p false && hexDigits [h2, h3] && h2 != 0x30 && frameSumOk 0x30 0x30 h2 h3 k
  | .frameOutboundUnpadP1D3 p h1 h2 h3 k =>
      Machine.accept p false && hexDigits [h1, h2, h3] && h1 != 0x30 && frameSumOk 0x30 h1 h2 h3 k
  | .frameOutboundPadP2 p q h0 h1 h2 h3 k =>
      Machine.accept p false && Machine.accept q false && hexDigits [h0, h1, h2, h3] && frameSumOk h0 h1 h2 h3 k
  | .frameOutboundUnpadP2D1 p q h3 k =>
      Machine.accept p false && Machine.accept q false && hexDigits [h3] && frameSumOk 0x30 0x30 0x30 h3 k
  | .frameOutboundUnpadP2D2 p q h2 h3 k =>
      Machine.accept p false && Machine.accept q false && hexDigits [h2, h3] && h2 != 0x30 && frameSumOk 0x30 0x30 h2 h3 k
  | .frameOutboundUnpadP2D3 p q h1 h2 h3 k =>
      Machine.accept p false && Machine.accept q false && hexDigits [h1, h2, h3] && h1 != 0x30 && frameSumOk 0x30 h1 h2 h3 k
  | .readframe expected _ => expected == 6 || expected == 1
  | .stUnused code => decide (11 ≤ code.toNat)
  | .ch0 | .ch1 | .ch2 | .ch3 | .ch4 | .ch5 | .ch6 | .ch7 | .ch8 | .ch9 => true
  | .chA | .chB | .chC | .chD | .chE | .chF | .chG | .chH | .chY => true
  | .frameAck => true
  | .accept _ _ | .rxchar | .hexval _ | .hexchar _ | .checksum _ _ _ _ | .decodeinbound | .verifychecksum => true
  | .decodereading | .encodeoutbound _ | .computesetpoint _ _ | .txchar | .writeframe | .settxline _ => true
  | .stIdle | .stPowerup | .stAwaitinbound | .stValidate | .stCompute | .stTransmit | .stAwaitack | .stPass => true
  | .stFail | .stPowerdown | .stShutdown => true
  | .txphEnc | .txphChar | .txphGap => true
  | .resNone | .resPending | .resPassed | .resFailed => true
  | .rsnNone | .rsnIncomplete | .rsnBadsentinel | .rsnChecksummismatch | .rsnInvalidreading => true
  | .rsnValueoutofrange | .rsnTransporterror | .rsnUnverified => true

end Sys2Proof
end

