-- ==== Sys2Proof/Decode.lean ====
section
/-! DEFINITION. The codes of R70 to R72, the decoder of words (total, rejecting by name), the encoder, and the reading of a
table word. -/

namespace Sys2Proof

/-- R70. -/
def SeqState.code : SeqState → BitVec 4
  | .idle => 0
  | .powerUp => 1
  | .awaitInbound => 2
  | .validate => 3
  | .compute => 4
  | .transmit => 5
  | .awaitAck => 6
  | .pass => 7
  | .fail => 8
  | .powerDown => 9
  | .shutdown => 10

/-- R10, R19: `ENC` 0, `CHAR` 1, `GAP` 2. -/
def TxPhase.code : TxPhase → BitVec 2
  | .enc => 0
  | .char => 1
  | .gap => 2

/-- R71. -/
def ResultTag.code : ResultTag → BitVec 2
  | .none => 0
  | .pending => 1
  | .passed => 2
  | .failed => 3

/-- R72. -/
def Reason.code : Reason → BitVec 3
  | .incomplete => 1
  | .badSentinel => 2
  | .checksumMismatch => 3
  | .invalidReading => 4
  | .valueOutOfRange => 5
  | .transportError => 6
  | .unverified => 7

/-- The character row of a byte delivered with `rx_ferr = ferr` (R60, R61, R62): one of the nineteen, or noise. -/
def decodeChar (b : Byte) (ferr : Bool) : Instr :=
  if ferr then .noise b true
  else
    match b.toNat with
    | 0x30 => .ch0
    | 0x31 => .ch1
    | 0x32 => .ch2
    | 0x33 => .ch3
    | 0x34 => .ch4
    | 0x35 => .ch5
    | 0x36 => .ch6
    | 0x37 => .ch7
    | 0x38 => .ch8
    | 0x39 => .ch9
    | 0x41 => .chA
    | 0x42 => .chB
    | 0x43 => .chC
    | 0x44 => .chD
    | 0x45 => .chE
    | 0x46 => .chF
    | 0x47 => .chG
    | 0x48 => .chH
    | 0x59 => .chY
    | _ => .noise b false

/-- The state row of a `state` code (R70): codes 11 to 15 are `ST_UNUSED`. -/
def decodeState (c : BitVec 4) : Instr :=
  match c.toNat with
  | 0 => .stIdle
  | 1 => .stPowerup
  | 2 => .stAwaitinbound
  | 3 => .stValidate
  | 4 => .stCompute
  | 5 => .stTransmit
  | 6 => .stAwaitack
  | 7 => .stPass
  | 8 => .stFail
  | 9 => .stPowerdown
  | 10 => .stShutdown
  | _ => .stUnused c

/-- The phase row of a `tx_phase` code (R164); code 3 is unused. -/
def decodePhase (c : BitVec 2) : Except DecodeError Instr :=
  match c.toNat with
  | 0 => .ok .txphEnc
  | 1 => .ok .txphChar
  | 2 => .ok .txphGap
  | _ => .error .unusedPhaseCode

/-- The result row of a `result` code (R71). -/
def decodeResult (c : BitVec 2) : Instr :=
  match c.toNat with
  | 0 => .resNone
  | 1 => .resPending
  | 2 => .resPassed
  | _ => .resFailed

/-- The reason row of a `reason` code (R72). -/
def decodeReason (c : BitVec 3) : Instr :=
  match c.toNat with
  | 0 => .rsnNone
  | 1 => .rsnIncomplete
  | 2 => .rsnBadsentinel
  | 3 => .rsnChecksummismatch
  | 4 => .rsnInvalidreading
  | 5 => .rsnValueoutofrange
  | 6 => .rsnTransporterror
  | _ => .rsnUnverified

/-- The candidate, if its fixed characters are there. -/
def candidate (fixedOk : Bool) (i : Instr) : List Instr := if fixedOk then [i] else []

/-- The frame rows of the word's length whose fixed characters (the table's match and mask) the word has. -/
def frameCandidates : List Byte → List Instr
  | [b0] => candidate (b0 == 0x59) .frameAck
  | [b0, b1, b2, b3] => candidate (b0 == 0x48 && b1 == 0x30) (.frameOutboundUnpadP0D1 b2 b3)
  | [b0, b1, b2, b3, b4] =>
      candidate (b0 == 0x48 && b1 == 0x30) (.frameOutboundUnpadP0D2 b2 b3 b4) ++
      candidate (b1 == 0x48 && b2 == 0x30) (.frameOutboundUnpadP1D1 b0 b3 b4)
  | [b0, b1, b2, b3, b4, b5] =>
      candidate (b0 == 0x47) (.frameInbound b1 b2 b3 b4 b5) ++
      candidate (b0 == 0x48 && b1 == 0x30) (.frameOutboundUnpadP0D3 b2 b3 b4 b5) ++
      candidate (b1 == 0x48 && b2 == 0x30) (.frameOutboundUnpadP1D2 b0 b3 b4 b5) ++
      candidate (b2 == 0x48 && b3 == 0x30) (.frameOutboundUnpadP2D1 b0 b1 b4 b5)
  | [b0, b1, b2, b3, b4, b5, b6] =>
      candidate (b0 == 0x48 && b1 == 0x30) (.frameOutboundPadP0 b2 b3 b4 b5 b6) ++
      candidate (b1 == 0x48 && b2 == 0x30) (.frameOutboundUnpadP1D3 b0 b3 b4 b5 b6) ++
      candidate (b2 == 0x48 && b3 == 0x30) (.frameOutboundUnpadP2D2 b0 b1 b4 b5 b6)
  | [b0, b1, b2, b3, b4, b5, b6, b7] =>
      candidate (b1 == 0x48 && b2 == 0x30) (.frameOutboundPadP1 b0 b3 b4 b5 b6 b7) ++
      candidate (b2 == 0x48 && b3 == 0x30) (.frameOutboundUnpadP2D3 b0 b1 b4 b5 b6 b7)
  | [b0, b1, b2, b3, b4, b5, b6, b7, b8] =>
      candidate (b2 == 0x48 && b3 == 0x30) (.frameOutboundPadP2 b0 b1 b4 b5 b6 b7 b8)
  | _ => []

/-- The frame row of a word: the candidate whose operand characters are legal, and where none is, the first candidate (the
table's mask does not constrain operand characters; log entry 7). -/
def decodeFrame (bs : List Byte) : Except DecodeError Instr :=
  match (frameCandidates bs).find? Instr.wf with
  | some i => .ok i
  | none =>
    match frameCandidates bs with
    | i :: _ => .ok i
    | [] => .error .noSuchFrame

/-- A code word of `n` bits in one byte. -/
def decodeCode (n : Nat) (bs : List Byte) (row : BitVec n → Except DecodeError Instr) : Except DecodeError Instr :=
  match bs with
  | [b] => if b.toNat < 2 ^ n then row (BitVec.ofNat n b.toNat) else .error .upperBitsSet
  | _ => .error .notOneByte

/-- The decoder: total on every format and every bytes. -/
def decode (w : OpWord) : Except DecodeError Instr :=
  match w.format with
  | .char8 ferr =>
    match w.bytes with
    | [b] => .ok (decodeChar b ferr)
    | _ => .error .notOneByte
  | .frame => decodeFrame w.bytes
  | .state4 => decodeCode 4 w.bytes (fun c => .ok (decodeState c))
  | .txphase2 => decodeCode 2 w.bytes decodePhase
  | .result2 => decodeCode 2 w.bytes (fun c => .ok (decodeResult c))
  | .reason3 => decodeCode 3 w.bytes (fun c => .ok (decodeReason c))

/-- A character word with no framing error. -/
def OpWord.ofChar (b : Byte) : OpWord := ⟨.char8 false, [b]⟩

/-- A frame word. -/
def OpWord.ofFrame (bs : List Byte) : OpWord := ⟨.frame, bs⟩

/-- A state code word. -/
def OpWord.ofState (c : BitVec 4) : OpWord := ⟨.state4, [c.setWidth 8]⟩

/-- A phase, result or reason code word. -/
def OpWord.ofCode (f : Format) (c : Nat) : OpWord := ⟨f, [BitVec.ofNat 8 c]⟩

/-- The encoder, from the table's encodings; the operation rows have none ("it has no opcode bits"). -/
def encode : Instr → Option OpWord
  | .ch0 => some (.ofChar 0x30)
  | .ch1 => some (.ofChar 0x31)
  | .ch2 => some (.ofChar 0x32)
  | .ch3 => some (.ofChar 0x33)
  | .ch4 => some (.ofChar 0x34)
  | .ch5 => some (.ofChar 0x35)
  | .ch6 => some (.ofChar 0x36)
  | .ch7 => some (.ofChar 0x37)
  | .ch8 => some (.ofChar 0x38)
  | .ch9 => some (.ofChar 0x39)
  | .chA => some (.ofChar 0x41)
  | .chB => some (.ofChar 0x42)
  | .chC => some (.ofChar 0x43)
  | .chD => some (.ofChar 0x44)
  | .chE => some (.ofChar 0x45)
  | .chF => some (.ofChar 0x46)
  | .chG => some (.ofChar 0x47)
  | .chH => some (.ofChar 0x48)
  | .chY => some (.ofChar 0x59)
  | .noise b ferr => some ⟨.char8 ferr, [b]⟩
  | .frameInbound d0 d1 d2 d3 k => some (.ofFrame [0x47, d0, d1, d2, d3, k])
  | .frameOutboundPadP0 h0 h1 h2 h3 k => some (.ofFrame [0x48, 0x30, h0, h1, h2, h3, k])
  | .frameOutboundUnpadP0D1 h3 k => some (.ofFrame [0x48, 0x30, h3, k])
  | .frameOutboundUnpadP0D2 h2 h3 k => some (.ofFrame [0x48, 0x30, h2, h3, k])
  | .frameOutboundUnpadP0D3 h1 h2 h3 k => some (.ofFrame [0x48, 0x30, h1, h2, h3, k])
  | .frameOutboundPadP1 p h0 h1 h2 h3 k => some (.ofFrame [p, 0x48, 0x30, h0, h1, h2, h3, k])
  | .frameOutboundUnpadP1D1 p h3 k => some (.ofFrame [p, 0x48, 0x30, h3, k])
  | .frameOutboundUnpadP1D2 p h2 h3 k => some (.ofFrame [p, 0x48, 0x30, h2, h3, k])
  | .frameOutboundUnpadP1D3 p h1 h2 h3 k => some (.ofFrame [p, 0x48, 0x30, h1, h2, h3, k])
  | .frameOutboundPadP2 p q h0 h1 h2 h3 k => some (.ofFrame [p, q, 0x48, 0x30, h0, h1, h2, h3, k])
  | .frameOutboundUnpadP2D1 p q h3 k => some (.ofFrame [p, q, 0x48, 0x30, h3, k])
  | .frameOutboundUnpadP2D2 p q h2 h3 k => some (.ofFrame [p, q, 0x48, 0x30, h2, h3, k])
  | .frameOutboundUnpadP2D3 p q h1 h2 h3 k => some (.ofFrame [p, q, 0x48, 0x30, h1, h2, h3, k])
  | .frameAck => some (.ofFrame [0x59])
  | .accept _ _ | .rxchar | .readframe _ _ | .hexval _ | .hexchar _ | .checksum _ _ _ _ | .decodeinbound => none
  | .verifychecksum | .decodereading | .encodeoutbound _ | .computesetpoint _ _ | .txchar | .writeframe => none
  | .settxline _ => none
  | .stIdle => some (.ofState 0)
  | .stPowerup => some (.ofState 1)
  | .stAwaitinbound => some (.ofState 2)
  | .stValidate => some (.ofState 3)
  | .stCompute => some (.ofState 4)
  | .stTransmit => some (.ofState 5)
  | .stAwaitack => some (.ofState 6)
  | .stPass => some (.ofState 7)
  | .stFail => some (.ofState 8)
  | .stPowerdown => some (.ofState 9)
  | .stShutdown => some (.ofState 10)
  | .stUnused code => some (.ofState code)
  | .txphEnc => some (.ofCode .txphase2 0)
  | .txphChar => some (.ofCode .txphase2 1)
  | .txphGap => some (.ofCode .txphase2 2)
  | .resNone => some (.ofCode .result2 0)
  | .resPending => some (.ofCode .result2 1)
  | .resPassed => some (.ofCode .result2 2)
  | .resFailed => some (.ofCode .result2 3)
  | .rsnNone => some (.ofCode .reason3 0)
  | .rsnIncomplete => some (.ofCode .reason3 1)
  | .rsnBadsentinel => some (.ofCode .reason3 2)
  | .rsnChecksummismatch => some (.ofCode .reason3 3)
  | .rsnInvalidreading => some (.ofCode .reason3 4)
  | .rsnValueoutofrange => some (.ofCode .reason3 5)
  | .rsnTransporterror => some (.ofCode .reason3 6)
  | .rsnUnverified => some (.ofCode .reason3 7)

/-- The `n` bytes of a number, least significant first: element `i` in bits `8i+7 : 8i` (R76). -/
def bytesOf : Nat → Nat → List Byte
  | 0, _ => []
  | n + 1, w => BitVec.ofNat 8 w :: bytesOf n (w / 256)

/-- The format a bare table word is read in, which the table's bits alone do not say (log entry 4): a word of 8 bits is an
accepted character, else a state code, else a noise byte; 4 bits a state code; 3 bits a reason code; 2 bits a transmit phase;
more than 8 bits a frame. -/
def tableFormat (nbits w : Nat) : Format :=
  if nbits = 8 then
    if Machine.accept (BitVec.ofNat 8 w) false then .char8 false
    else if w < 16 then .state4
    else .char8 false
  else if nbits = 4 then .state4
  else if nbits = 3 then .reason3
  else if nbits = 2 then .txphase2
  else .frame

/-- The word of `nbits` bits a table row's number stands for. -/
def tableWord (nbits w : Nat) : OpWord := ⟨tableFormat nbits w, bytesOf ((nbits + 7) / 8) w⟩

/-- The instruction the decoder reads from a table word. -/
def decodeTableWord (nbits w : Nat) : Option Instr :=
  match decode (tableWord nbits w) with
  | .ok i => some i
  | .error _ => none

end Sys2Proof
end

