-- ==== Sys2Proof/Machine/State.lean ====
section
/-! DEFINITION. The registers of R10 as plain data, beside them what the block is given (configuration, inputs), the model's
own fields, the state after reset, and the reasons a step can stop. -/

namespace Sys2Proof.Machine

/-- A frame buffer (R40): the elements that do not hold 0x00, as (index, byte) pairs, indices strictly rising. An element not
listed reads 0x00, the value of a cleared or reset element (R15, R19, R29). -/
abbrev Memory := List Host.Cell

/-- MODEL's own: the outputs of the combinational functions (R110 to R116, R131), as last invoked by an operation row. They are
no registers (R120) and no rule reads them; they show what an operation row answers (log entry 8). -/
structure Wires where
  accept : Bool
  hexvalValid : Bool
  hexvalVal : Nibble
  hexchar : Byte
  checksum : Byte
  verify : Bool
  reading : BitVec 16
  /-- the frame of `ENCODEOUTBOUND` -/
  frame : List Byte
  /-- the answer of `COMPUTESETPOINT`: `none` is `DivideByZero` -/
  setpoint : Option Int
deriving DecidableEq, Repr

/-- Every wire 0. -/
def Wires.zero : Wires where
  accept := false
  hexvalValid := false
  hexvalVal := 0
  hexchar := 0
  checksum := 0
  verify := false
  reading := 0
  frame := []
  setpoint := none

/-- The machine. The fields down to `logPend` are the registers of R10, in its order; codes are those of R70 to R72. -/
structure State where
  /-- `state`, the block's program counter (R11) -/
  state : BitVec 4
  /-- `timer` (R12) -/
  timer : Nat
  /-- `exit_pend` (R13) -/
  exitPend : Bool
  /-- `dev_power` (R14) -/
  devPower : Bool
  /-- `prog_en` (R14) -/
  progEn : Bool
  /-- `tx_line_active` (R14) -/
  txLineActive : Bool
  /-- `rx_buf[0..5]` (R15) -/
  rxBuf : Memory
  /-- `rx_cnt` (R15) -/
  rxCnt : Nat
  /-- `ack_char` (R16) -/
  ackChar : Byte
  /-- `ack_v` (R16) -/
  ackV : Bool
  /-- `reading` (R17) -/
  reading : BitVec 16
  /-- `reading_v` (R17) -/
  readingV : Bool
  /-- `ref_lat` (R17), signed -/
  refLat : Int
  /-- `setpoint` (R18), signed -/
  setpoint : Int
  /-- `setpoint_v` (R18) -/
  setpointV : Bool
  /-- `tx_buf[0..8]` (R19) -/
  txBuf : Memory
  /-- `tx_len` (R19) -/
  txLen : Nat
  /-- `tx_idx` (R19) -/
  txIdx : Nat
  /-- `tx_phase` (R19) -/
  txPhase : BitVec 2
  /-- `result` (R20) -/
  result : BitVec 2
  /-- `reason` (R20) -/
  reason : BitVec 3
  /-- `log_pend` (R21) -/
  logPend : Bool
  /-- the configuration inputs as last sampled (R22): not a register -/
  cfg : Config
  /-- the input ports at the coming edge (R23) -/
  ports : Inputs
  /-- MODEL's own: the input vectors at the edges after that (log entry 1) -/
  env : List Inputs
  /-- MODEL's own: the number of edges taken, the index of the free input stream (log entry 2) -/
  clk : Nat
  /-- MODEL's own: combinational outputs (log entry 8) -/
  wires : Wires
  /-- MODEL's own: a table word the very next step decodes in place of the `state` register (log entry 3) -/
  slot : Option OpWord
deriving DecidableEq, Repr

/-- The state after reset (R29) of a block with the given configuration, inputs at the first edge, and later inputs. -/
def State.resetWith (cfg : Config) (ports : Inputs) (env : List Inputs) : State where
  state := 0
  timer := 0
  exitPend := false
  devPower := false
  progEn := false
  txLineActive := false
  rxBuf := []
  rxCnt := 0
  ackChar := 0
  ackV := false
  reading := 0
  readingV := false
  refLat := 0
  setpoint := 0
  setpointV := false
  txBuf := []
  txLen := 0
  txIdx := 0
  txPhase := 0
  result := 0
  reason := 0
  logPend := false
  cfg := cfg
  ports := ports
  env := env
  clk := 0
  wires := Wires.zero
  slot := none

/-- The state after reset (R29). The configuration and the inputs are no registers; the values they have here are DESIGN
CHOICES (log entries 12, 13). -/
def State.reset : State := State.resetWith Config.example95 Inputs.idle []

/-- The faults of the model. -/
inductive Fault where
  /-- Raised by a write to an element a frame buffer does not have (R40: "`MemRead(buf, i)` and `MemWrite(buf, i, v)` are
  defined only for ..."). No state reached from reset raises it. A read raises no fault (log entry 19). Safe. -/
  | bufferIndex
deriving DecidableEq, Repr

/-- The refusals of the model. -/
inductive Refusal where
  /-- Raised by an arm of `exec` whose row has no meaning yet. No arm answers it. Safe. -/
  | notModelled (mnemonic : String)
  /-- Raised by a clock edge without reset whose `state` register holds one of the codes 11 to 15 (U21). Safe. -/
  | unusedStateCode
  /-- Raised by `Transmit` with `tx_phase` code 3 (U21). Safe. -/
  | unusedTxPhase
  /-- Raised under a configuration outside R7, "refused, not given a meaning" (U17), by a clock edge without reset and by
  every row that reads the configuration outside one (log entry 14). Safe. -/
  | configOutsideLimits
  /-- Raised by a clock edge on which the configuration inputs change during an attempt (R52, U18: refuse). Safe. -/
  | configChangedInAttempt
  /-- Raised by a step whose placed word decodes to no row. Safe. -/
  | undecodable (why : DecodeError)
deriving DecidableEq, Repr

/-- What a step answers. -/
abbrev Result := Host.Outcome State Fault Refusal

end Sys2Proof.Machine
end

