-- ==== Sys2Proof/Machine/Flags.lean ====
section
/-! DEFINITION. The conditions the rules test. The block has no arithmetic flags (R21): each condition is consumed in the step
that computes it. -/

namespace Sys2Proof.Machine

/-- Element `a` of a frame buffer; an element not listed reads 0x00. R40 defines a read only within the buffer: past it this
answers 0x00 too, with no fault. DESIGN CHOICE, log entry 19; the one read whose index is not written out in a rule is that of
`tx_data` at `tx_idx` (`outputs`), which the invariant keeps within the buffer. -/
def Memory.read : Memory → Nat → Byte
  | [], _ => 0
  | (b, v) :: rest, a => if b = a then v else Memory.read rest a

/-- `exit_now` (R156): a request latched before or made on this step. -/
def exitNow (s : State) : Bool := s.exitPend || s.ports.exitReq

/-- The expiry condition of `dec` (R175), on the timer after the decrement. -/
def expired (s : State) : Bool := s.timer == 0

/-- A byte is presented and passes the acceptance filter (R92). -/
def rxTakes (s : State) : Bool := s.ports.rxValid && accept s.ports.rxData s.ports.rxFerr

/-- `verifyChecksum(rx_buf)` (R114). -/
def verifyChecksum (m : Memory) : Bool :=
  verifyChars (m.read 1) (m.read 2) (m.read 3) (m.read 4) (m.read 5)

/-- `decodeReading(rx_buf)` (R115). -/
def decodeReading (m : Memory) : BitVec 16 := decodeChars (m.read 1) (m.read 2) (m.read 3) (m.read 4)

/-- The sequencer is in the given state. -/
def State.isIn (s : State) (y : SeqState) : Bool := s.state == y.code

/-- `rx_ready` (R24): one of the two read windows. -/
def rxReady (s : State) : Bool := s.isIn .awaitInbound || s.isIn .awaitAck

end Sys2Proof.Machine
end

