-- ==== Sys2Proof/Machine/Ops.lean ====
section
/-! DEFINITION. The named operations over the frame buffers and registers that the rules are written in: buffer writes, the
prelude, the timer, the entry actions, `goto`, taking a failure and returning from one, the receiver's and the codec's register
transfers, and the clock edge around a rule. -/

namespace Sys2Proof.Machine

/-! ### Outcomes -/

/-- Go on from a next state; a stop stays. -/
def andThen {α β : Type} (r : Host.Outcome α Fault Refusal) (f : α → Host.Outcome β Fault Refusal) :
    Host.Outcome β Fault Refusal :=
  match r with
  | .next s => f s
  | .fault e => .fault e
  | .refused e => .refused e

/-! ### Frame buffers (R40, R41) -/

/-- The canonical form of a frame buffer: indices strictly rising, no element that reads as an unlisted one does. -/
def Memory.wf : Memory → Bool
  | [] => true
  | [(_, v)] => v != 0
  | (a, v) :: (b, w) :: rest => decide (a < b) && v != 0 && Memory.wf ((b, w) :: rest)

/-- Element `a` set to `v`, the canonical form kept: writing 0x00 removes the entry. -/
def Memory.write : Memory → Nat → Byte → Memory
  | [], a, v => if v = 0 then [] else [(a, v)]
  | (b, w) :: rest, a, v =>
    if a < b then (if v = 0 then (b, w) :: rest else (a, v) :: (b, w) :: rest)
    else if a = b then (if v = 0 then rest else (a, v) :: rest)
    else (b, w) :: Memory.write rest a v

/-- The elements of `rx_buf` (R15). -/
def rxSize : Nat := 6

/-- The elements of `tx_buf` (R19). -/
def txSize : Nat := 9

/-- `MemWrite(rx_buf, i, v)` (R9, R40). -/
def writeRx (i : Nat) (v : Byte) (s : State) : Result :=
  if i < rxSize then .next { s with rxBuf := s.rxBuf.write i v } else .fault .bufferIndex

/-- `MemWrite(tx_buf, i, v)` (R9, R40). -/
def writeTx (i : Nat) (v : Byte) (s : State) : Result :=
  if i < txSize then .next { s with txBuf := s.txBuf.write i v } else .fault .bufferIndex

/-- `MemWrite(tx_buf, i + j, f[j])` for every element of the frame, in order. -/
def writeTxFrom : Nat → List Byte → State → Result
  | _, [], s => .next s
  | i, c :: rest, s => andThen (writeTx i c s) (writeTxFrom (i + 1) rest)

/-! ### Inputs -/

/-- The next input vector comes to the ports (log entries 1, 2). -/
def advance (s : State) : State :=
  { s with ports := s.env.headD (Config.openInput s.clk), env := s.env.tail, clk := s.clk + 1 }

/-- The configuration lines sampled at this edge (R52, R222): a change is taken with reset, in `Idle` and in `Shutdown`, and
refused elsewhere. `TIMER_W` is a width, no configuration input (R22): a change of it is not seen. -/
def sampleConfig (s : State) : Option State :=
  match s.ports.reconfig with
  | none => some s
  | some c =>
    let c' : Config := { c with timerW := s.cfg.timerW }
    if c' = s.cfg ∨ s.ports.rst = true ∨ s.isIn .idle = true ∨ s.isIn .shutdown = true then some { s with cfg := c' }
    else none

/-! ### Reset, prelude, timer -/

/-- Every register at its reset value (R29, R220). -/
def resetRegs (s : State) : State :=
  { State.resetWith s.cfg s.ports s.env with clk := s.clk, wires := s.wires, slot := s.slot }

/-- The prelude (R156): the exit latch. -/
def prelude (s : State) : State := { s with exitPend := exitNow s }

/-- `dec(tick)` (R175): the timer's new value; `expired` of the answer is the condition. -/
def dec (s : State) : State :=
  { s with timer := if s.ports.tick = true ∧ 0 < s.timer then s.timer - 1 else s.timer }

/-- `SETTXLINE` (R144). -/
def setTxLine (b : Bool) (s : State) : State := { s with txLineActive := b }

/-! ### Entry actions (R158) -/

/-- `clear_attempt` (R158). -/
def clearAttempt (s : State) : State :=
  { s with
    rxBuf := [], ackChar := 0, reading := 0, refLat := 0, setpoint := 0, txBuf := [],
    rxCnt := 0, ackV := false, readingV := false, setpointV := false, txLen := 0, txIdx := 0, reason := 0,
    txPhase := TxPhase.enc.code }

/-- `enter(PowerUp)`. -/
def enterPowerUp (s : State) : State :=
  { clearAttempt s with
    result := ResultTag.pending.code, devPower := true, progEn := true, txLineActive := true,
    timer := s.cfg.settleTicks, state := SeqState.powerUp.code }

/-- `enter(AwaitInbound)`. -/
def enterAwaitInbound (s : State) : State :=
  { setTxLine false s with timer := s.cfg.rxDeadlineTicks, state := SeqState.awaitInbound.code }

/-- `enter(Validate)`. -/
def enterValidate (s : State) : State := { s with state := SeqState.validate.code }

/-- `enter(Compute)`. -/
def enterCompute (s : State) : State := { s with state := SeqState.compute.code }

/-- `enter(Transmit)`. -/
def enterTransmit (s : State) : State := { s with txPhase := TxPhase.enc.code, state := SeqState.transmit.code }

/-- `enter(AwaitAck)`. -/
def enterAwaitAck (s : State) : State :=
  { setTxLine false s with timer := s.cfg.ackDeadlineTicks, state := SeqState.awaitAck.code }

/-- `enter(Pass)`. -/
def enterPass (s : State) : State :=
  { setTxLine false s with
    result := ResultTag.passed.code, logPend := true, timer := s.cfg.indHoldTicks, state := SeqState.pass.code }

/-- `enter(Fail, r)`: failure entry (R158, R202). Nothing is saved; the attempt registers keep their values. -/
def enterFail (r : Reason) (s : State) : State :=
  { setTxLine false s with
    result := ResultTag.failed.code, reason := r.code, logPend := true, timer := s.cfg.indHoldTicks,
    state := SeqState.fail.code }

/-- `enter(PowerDown)`. -/
def enterPowerDown (s : State) : State :=
  { setTxLine false s with devPower := false, progEn := false, logPend := false, state := SeqState.powerDown.code }

/-- `goto(Y)` with the entry action of `Y` (R157): a pending exit request puts `PowerDown` in its place. -/
def goto (enterY : State → State) (s : State) : State :=
  if exitNow s = true then enterPowerDown s else enterY s

/-- TAKING A FAILURE: `raise Fail(r)`, that is `goto(Fail, r)` (R157, R202). -/
def raiseFail (r : Reason) (s : State) : State := goto (enterFail r) s

/-- RETURNING FROM AN ATTEMPT, failed or passed (R203): what the `PowerDown` step writes (R168). -/
def finishAttempt (s : State) : State :=
  { clearAttempt s with
    result := ResultTag.none.code,
    state := if exitNow s = true then SeqState.shutdown.code else SeqState.idle.code }

/-! ### Receiver (R92, R113) -/

/-- `RXCHAR`, inbound read (R92). -/
def rxCharInbound (s : State) : Result :=
  if rxTakes s = true then
    andThen (writeRx s.rxCnt s.ports.rxData s) (fun t => .next { t with rxCnt := s.rxCnt + 1 })
  else .next s

/-- `RXCHAR`, acknowledgement read (R92). -/
def rxCharAck (s : State) : State :=
  if rxTakes s = true then { s with ackChar := s.ports.rxData, ackV := true } else s

/-- The presented byte is taken from the transport (R48, R91). -/
def consumeByte (s : State) : State := { s with ports := { s.ports with rxValid := false } }

/-- The tick of this step has been seen (R175): what is left of the step does not count it again (log entry 9). -/
def consumeTick (s : State) : State := { s with ports := { s.ports with tick := false } }

/-- `DECODEINBOUND` (R113): the length test, then the sentinel test, then on to `Validate`. -/
def decodeInbound (s : State) : State :=
  if s.rxCnt < 6 then raiseFail .incomplete s
  else if s.rxBuf.read 0 ≠ 0x47#8 then raiseFail .badSentinel s
  else goto enterValidate s

/-! ### Codec and transmitter (R116, R164) -/

/-- The writes of phase `ENC` with the frame `f` (R164). -/
def loadFrame (f : List Byte) (s : State) : Result :=
  andThen (writeTxFrom 0 f s) (fun t =>
    .next { setTxLine true t with txLen := f.length, txIdx := 0, txPhase := TxPhase.char.code })

/-! ### The clock edge -/

/-- An operation that reads the configuration outside a clock edge: one outside R7 is refused, as an edge refuses it (U17; log
entry 14). -/
def underLegalConfig (op : State → Result) (s : State) : Result :=
  if s.cfg.wf = true then op s else .refused .configOutsideLimits

/-- One rising edge of `clk` around a state rule: reset over everything (R220), else the rule under a legal configuration (R7);
then the next inputs come to the ports. -/
def clockEdge (rule : State → Result) (s : State) : Result :=
  match sampleConfig s with
  | none => .refused .configChangedInAttempt
  | some s1 =>
    if s1.ports.rst = true then .next (advance (resetRegs s1))
    else if s1.cfg.wf = true then andThen (rule s1) (fun t => .next (advance t))
    else .refused .configOutsideLimits

/-- A clock edge in any state but `Shutdown`: the prelude, then the rule of the state (R156). -/
def stateStep (rule : State → Result) (s : State) : Result := clockEdge (fun t => rule (prelude t)) s

/-- The word the next step decodes: the placed word if there is one, else the `state` register (R11). -/
def fetchWord (s : State) : OpWord :=
  match s.slot with
  | some w => w
  | none => OpWord.ofState s.state

/-- The placed word is taken. -/
def clearSlot (s : State) : State := { s with slot := none }

end Sys2Proof.Machine
end

