-- ==== Sys2Proof/Machine/Calibrator.lean ====
section
/-! DEFINITION. The calibrator's operation row (42_calibrator.md). -/

namespace Sys2Proof.Machine

/-- `COMPUTESETPOINT` (R131): a pure function of the reading, the reference temperature and the configuration; no register
changes. A configuration outside R7 is refused (U17). -/
def execComputesetpoint (raw : BitVec 16) (tref : Int) (s : State) : Result :=
  underLegalConfig (fun t => .next { t with wires := { t.wires with setpoint := computeSetPoint t.cfg raw tref } }) s

end Sys2Proof.Machine
end

