-- ==== Sys2Proof/Machine/Codec.lean ====
section
/-! DEFINITION. The codec (41_codec.md): its operation rows and the outbound frame rows. -/

namespace Sys2Proof.Machine

/-! ### Pure operations: an answer on the wires, no register (R120) -/

/-- `HEXVAL` (R110). -/
def execHexval (c : Byte) (s : State) : Result :=
  .next { s with wires := { s.wires with
    hexvalValid := (Sys2Proof.Machine.hexval c).1, hexvalVal := (Sys2Proof.Machine.hexval c).2 } }

/-- `HEXCHAR` (R111). -/
def execHexchar (v : Nibble) (s : State) : Result :=
  .next { s with wires := { s.wires with hexchar := Sys2Proof.Machine.hexchar v } }

/-- `CHECKSUM` (R112). -/
def execChecksum (v0 v1 v2 v3 : Nibble) (s : State) : Result :=
  .next { s with wires := { s.wires with checksum := Sys2Proof.Machine.checksum v0 v1 v2 v3 } }

/-- `VERIFYCHECKSUM` (R114): of `rx_buf`. -/
def execVerifychecksum (s : State) : Result :=
  .next { s with wires := { s.wires with verify := verifyChecksum s.rxBuf } }

/-- `DECODEREADING` (R115): of `rx_buf`. -/
def execDecodereading (s : State) : Result :=
  .next { s with wires := { s.wires with reading := decodeReading s.rxBuf } }

/-! ### Operations that can raise a failure -/

/-- `DECODEINBOUND` (R113): raises `Incomplete` or `BadSentinel`, or continues to `Validate`. The failure entry reads the
configuration: one outside R7 is refused (U17). R113 and R49 give it only for the end of the `AwaitInbound` window. DESIGN CHOICE, log
entry 28: alone it tests no state and acts on `rx_buf` and `rx_cnt` as they stand, from any state. -/
def execDecodeinbound (s : State) : Result := underLegalConfig (fun t => .next (decodeInbound t)) s

/-- `ENCODEOUTBOUND` (R116): the frame on the wires, or `Fail(ValueOutOfRange)` raised. A configuration outside R7 is refused
(U17). R49 and R190 give it only for phase `ENC` of `Transmit`. DESIGN CHOICE, log entry 28: alone it tests no state and no phase, and
raises its failure from any state. -/
def execEncodeoutbound (sp : Int) (s : State) : Result :=
  underLegalConfig (fun t =>
    match encodeFrame t.cfg sp with
    | none => .next (raiseFail .valueOutOfRange t)
    | some f => .next { t with wires := { t.wires with frame := f } }) s

/-! ### Outbound frames: the `ENC` step that builds this frame (R64, R65, R164; log entry 7) -/

/-- The clock step of phase `ENC` with the frame `f` (R164). The spec has this step only in `Transmit` phase `ENC`, and only with the
encoder's frame. DESIGN CHOICE, log entry 7: a frame row tests neither state nor phase, so in any state, `Shutdown` included, it runs
the prelude, loads `tx_buf`, activates the line and sets `tx_phase` to `CHAR`, leaving `state` alone; and it loads its operand
characters as they are, those outside the whitelist too, which R25 keeps out of `tx_buf` in every run of the block. Nor does it
look at what stands in `tx_buf`, whose characters past a shorter frame's end stay (R19 has them 0), or at whether `PREFIX_LEN`,
`ADDR_PREFIX` and `PAD_HEX` give frames of this form (R64, R65). -/
def sendFrame (f : List Byte) (s : State) : Result := stateStep (loadFrame f) s

/-- `FRAME_OUTBOUND_PAD_P0` (R64). -/
def execFrameOutboundPadP0 (h0 h1 h2 h3 k : Byte) (s : State) : Result :=
  sendFrame [0x48#8, 0x30#8, h0, h1, h2, h3, k] s

/-- `FRAME_OUTBOUND_UNPAD_P0_D1` (R65). -/
def execFrameOutboundUnpadP0D1 (h3 k : Byte) (s : State) : Result :=
  sendFrame [0x48#8, 0x30#8, h3, k] s

/-- `FRAME_OUTBOUND_UNPAD_P0_D2` (R65). -/
def execFrameOutboundUnpadP0D2 (h2 h3 k : Byte) (s : State) : Result :=
  sendFrame [0x48#8, 0x30#8, h2, h3, k] s

/-- `FRAME_OUTBOUND_UNPAD_P0_D3` (R65). -/
def execFrameOutboundUnpadP0D3 (h1 h2 h3 k : Byte) (s : State) : Result :=
  sendFrame [0x48#8, 0x30#8, h1, h2, h3, k] s

/-- `FRAME_OUTBOUND_PAD_P1` (R64). -/
def execFrameOutboundPadP1 (p h0 h1 h2 h3 k : Byte) (s : State) : Result :=
  sendFrame [p, 0x48#8, 0x30#8, h0, h1, h2, h3, k] s

/-- `FRAME_OUTBOUND_UNPAD_P1_D1` (R65). -/
def execFrameOutboundUnpadP1D1 (p h3 k : Byte) (s : State) : Result :=
  sendFrame [p, 0x48#8, 0x30#8, h3, k] s

/-- `FRAME_OUTBOUND_UNPAD_P1_D2` (R65). -/
def execFrameOutboundUnpadP1D2 (p h2 h3 k : Byte) (s : State) : Result :=
  sendFrame [p, 0x48#8, 0x30#8, h2, h3, k] s

/-- `FRAME_OUTBOUND_UNPAD_P1_D3` (R65). -/
def execFrameOutboundUnpadP1D3 (p h1 h2 h3 k : Byte) (s : State) : Result :=
  sendFrame [p, 0x48#8, 0x30#8, h1, h2, h3, k] s

/-- `FRAME_OUTBOUND_PAD_P2` (R64). -/
def execFrameOutboundPadP2 (p q h0 h1 h2 h3 k : Byte) (s : State) : Result :=
  sendFrame [p, q, 0x48#8, 0x30#8, h0, h1, h2, h3, k] s

/-- `FRAME_OUTBOUND_UNPAD_P2_D1` (R65). -/
def execFrameOutboundUnpadP2D1 (p q h3 k : Byte) (s : State) : Result :=
  sendFrame [p, q, 0x48#8, 0x30#8, h3, k] s

/-- `FRAME_OUTBOUND_UNPAD_P2_D2` (R65). -/
def execFrameOutboundUnpadP2D2 (p q h2 h3 k : Byte) (s : State) : Result :=
  sendFrame [p, q, 0x48#8, 0x30#8, h2, h3, k] s

/-- `FRAME_OUTBOUND_UNPAD_P2_D3` (R65). -/
def execFrameOutboundUnpadP2D3 (p q h1 h2 h3 k : Byte) (s : State) : Result :=
  sendFrame [p, q, 0x48#8, 0x30#8, h1, h2, h3, k] s

end Sys2Proof.Machine
end

