-- ==== Sys2Proof/Machine/Codes.lean ====
section
/-! DEFINITION. The code rows of `result` and `reason`: a result row writes its code into the register, a reason row raises the
failure it names (log entry 10). -/

namespace Sys2Proof.Machine

/-- `result <- tag` (R20). -/
def writeResult (tag : ResultTag) (s : State) : State := { s with result := tag.code }

/-- `raise Fail(r)` as a row of its own (R202). The failure entry reads the configuration: one outside R7 is refused (U17). DESIGN
CHOICE, log entry 10: the row tests no state and no condition of its reason, so that `RSN_INCOMPLETE` raises its failure with
`rx_cnt = 6` too, where the block's own steps cannot (R191). -/
def raiseRow (r : Reason) (s : State) : Result := underLegalConfig (fun t => .next (raiseFail r t)) s

/-- `RES_NONE` (R71). -/
def execResNone (s : State) : Result := .next (writeResult .none s)

/-- `RES_PENDING` (R71). -/
def execResPending (s : State) : Result := .next (writeResult .pending s)

/-- `RES_PASSED` (R71). -/
def execResPassed (s : State) : Result := .next (writeResult .passed s)

/-- `RES_FAILED` (R71). -/
def execResFailed (s : State) : Result := .next (writeResult .failed s)

/-- `RSN_NONE` (R72, R20): no reason is recorded. -/
def execRsnNone (s : State) : Result := .next { s with reason := 0 }

/-- `RSN_INCOMPLETE` (R191): `raise Fail(Incomplete)`. -/
def execRsnIncomplete (s : State) : Result := raiseRow .incomplete s

/-- `RSN_BADSENTINEL` (R192): `raise Fail(BadSentinel)`. -/
def execRsnBadsentinel (s : State) : Result := raiseRow .badSentinel s

/-- `RSN_CHECKSUMMISMATCH` (R193): `raise Fail(ChecksumMismatch)`. -/
def execRsnChecksummismatch (s : State) : Result := raiseRow .checksumMismatch s

/-- `RSN_INVALIDREADING` (R194): `raise Fail(InvalidReading)`. -/
def execRsnInvalidreading (s : State) : Result := raiseRow .invalidReading s

/-- `RSN_VALUEOUTOFRANGE` (R195): `raise Fail(ValueOutOfRange)`. -/
def execRsnValueoutofrange (s : State) : Result := raiseRow .valueOutOfRange s

/-- `RSN_TRANSPORTERROR` (R196): `raise Fail(TransportError)`. -/
def execRsnTransporterror (s : State) : Result := raiseRow .transportError s

/-- `RSN_UNVERIFIED` (R197): `raise Fail(Unverified)`. -/
def execRsnUnverified (s : State) : Result := raiseRow .unverified s

end Sys2Proof.Machine
end

