-- ==== Sys2Proof/Machine/Sequencer.lean ====
section
/-! DEFINITION. The sequencer (44_sequencer.md): the rule of each state and of each transmit phase, the meanings of the `ST_*`
and `TXPH_*` rows, and the step of the state the `state` register holds. A rule runs after the prelude. -/

namespace Sys2Proof.Machine

/-! ### The state rules -/

/-- R159. -/
def ruleIdle (s : State) : Result :=
  if exitNow s = true then .next { s with state := SeqState.shutdown.code }
  else if s.ports.startReq = true then .next (enterPowerUp s)
  else .next s

/-- A timed wait that leaves for one state (R160, R166, R167). -/
def waitThen (enterY : State → State) (s : State) : State :=
  if expired (dec s) = true then goto enterY (dec s) else dec s

/-- R160. -/
def rulePowerUp (s : State) : Result := .next (waitThen enterAwaitInbound s)

/-- R161: transport fault, then the byte, then the end of the read. -/
def ruleAwaitInbound (s : State) : Result :=
  if s.ports.xportErr = true then .next (raiseFail .transportError s)
  else
    andThen (rxCharInbound s) (fun t =>
      if (dec t).rxCnt = 6 ∨ expired (dec t) = true then .next (decodeInbound (dec t)) else .next (dec t))

/-- R162. -/
def ruleValidate (s : State) : Result :=
  if verifyChecksum s.rxBuf = true then .next (goto enterCompute s) else .next (raiseFail .checksumMismatch s)

/-- The reference temperature of this attempt (R163): the sensor port or the configured constant, in `TEMP_W` bits. -/
def refTemperature (s : State) : Int :=
  sext s.cfg.tempW (if s.cfg.useSensor = true then s.ports.refTemp else s.cfg.refTempDefault)

/-- What R163 records in every case: the reading and the reference temperature. -/
def recordReading (s : State) : State :=
  { s with reading := decodeReading s.rxBuf, readingV := true, refLat := refTemperature s }

/-- The rest of R163: the set-point and on to `Transmit`, or `Fail(InvalidReading)`. -/
def concludeCompute (q : Option Int) (t : State) : State :=
  match q with
  | none => raiseFail .invalidReading t
  | some v => goto enterTransmit { t with setpoint := v, setpointV := true }

/-- R163. -/
def ruleCompute (s : State) : Result :=
  .next (concludeCompute (computeSetPoint s.cfg (decodeReading s.rxBuf) (refTemperature s)) (recordReading s))

/-- R164, phase `ENC`. -/
def ruleEnc (s : State) : Result :=
  match encodeFrame s.cfg s.setpoint with
  | none => .next (raiseFail .valueOutOfRange s)
  | some f => loadFrame f s

/-- R164, phase `CHAR`; R140, R143. -/
def ruleChar (s : State) : Result :=
  if s.ports.xportErr = true then .next (raiseFail .transportError s)
  else if s.ports.txDone = true then .next { s with timer := s.cfg.txGapTicks, txPhase := TxPhase.gap.code }
  else .next s

/-- R164, phase `GAP`; R141, R143. -/
def ruleGap (s : State) : Result :=
  if s.ports.xportErr = true then .next (raiseFail .transportError s)
  else if expired (dec s) = true then
    if s.txIdx + 1 = s.txLen then .next (goto enterAwaitAck (dec s))
    else .next { dec s with txIdx := s.txIdx + 1, txPhase := TxPhase.char.code }
  else .next (dec s)

/-- R164: the rule of the current phase; phase code 3 is unused (U21). -/
def ruleTransmit (s : State) : Result :=
  if s.txPhase = TxPhase.enc.code then ruleEnc s
  else if s.txPhase = TxPhase.char.code then ruleChar s
  else if s.txPhase = TxPhase.gap.code then ruleGap s
  else .refused .unusedTxPhase

/-- The end of the acknowledgement window with its one character in `ack_char` (R165): `'Y'` passes, another is `Unverified`. -/
def decideAck (s : State) : State :=
  if s.ackChar = 0x59#8 then goto enterPass s else raiseFail .unverified s

/-- R165: transport fault, then an accepted byte, then the deadline. A window that has its character is over (R93): it is decided
by that character and takes no other. The block's own steps never find `ack_v` set here (R99); `RXCHAR` or `READFRAME` run alone can
leave it so, with the rest of this step to come. DESIGN CHOICE, log entry 9. -/
def ruleAwaitAck (s : State) : Result :=
  if s.ports.xportErr = true then .next (raiseFail .transportError s)
  else if s.ackV = true then .next (decideAck s)
  else if rxTakes s = true then .next (decideAck (rxCharAck s))
  else if expired (dec s) = true then .next (raiseFail .unverified (dec s))
  else .next (dec s)

/-- R166 and R167: the log strobe ends, the indicator is held. `PowerDown` is the target with and without an exit request
(R157). -/
def ruleHold (s : State) : Result := .next (waitThen enterPowerDown { s with logPend := false })

/-- R168. -/
def rulePowerDown (s : State) : Result := .next (finishAttempt s)

/-! ### The state rows -/

/-- `ST_IDLE` (R159). -/
def execStIdle (s : State) : Result := stateStep ruleIdle s

/-- `ST_POWERUP` (R160). -/
def execStPowerup (s : State) : Result := stateStep rulePowerUp s

/-- `ST_AWAITINBOUND` (R161). -/
def execStAwaitinbound (s : State) : Result := stateStep ruleAwaitInbound s

/-- `ST_VALIDATE` (R162). -/
def execStValidate (s : State) : Result := stateStep ruleValidate s

/-- `ST_COMPUTE` (R163). -/
def execStCompute (s : State) : Result := stateStep ruleCompute s

/-- `ST_TRANSMIT` (R164). -/
def execStTransmit (s : State) : Result := stateStep ruleTransmit s

/-- `ST_AWAITACK` (R165). -/
def execStAwaitack (s : State) : Result := stateStep ruleAwaitAck s

/-- `ST_PASS` (R166). -/
def execStPass (s : State) : Result := stateStep ruleHold s

/-- `ST_FAIL` (R167). -/
def execStFail (s : State) : Result := stateStep ruleHold s

/-- `ST_POWERDOWN` (R168). -/
def execStPowerdown (s : State) : Result := stateStep rulePowerDown s

/-- `ST_SHUTDOWN` (R169): no register changes, the prelude is not run; only reset leaves it. -/
def execStShutdown (s : State) : Result := clockEdge Host.Outcome.next s

/-- `ST_UNUSED` (R70, U21): codes 11 to 15 have no meaning; only reset (R220) applies. -/
def execStUnused (_code : BitVec 4) (s : State) : Result := clockEdge (fun _ => .refused .unusedStateCode) s

/-! ### The phase rows -/

/-- `TXPH_ENC` (R164). -/
def execTxphEnc (s : State) : Result := stateStep ruleEnc s

/-- `TXPH_CHAR` (R164). -/
def execTxphChar (s : State) : Result := stateStep ruleChar s

/-- `TXPH_GAP` (R164). -/
def execTxphGap (s : State) : Result := stateStep ruleGap s

/-! ### The step of the current state -/

/-- One clock step of the block: the rule of the state the `state` register holds (44_sequencer.md, preamble). -/
def runState (s : State) : Result :=
  match s.state.toNat with
  | 0 => execStIdle s
  | 1 => execStPowerup s
  | 2 => execStAwaitinbound s
  | 3 => execStValidate s
  | 4 => execStCompute s
  | 5 => execStTransmit s
  | 6 => execStAwaitack s
  | 7 => execStPass s
  | 8 => execStFail s
  | 9 => execStPowerdown s
  | 10 => execStShutdown s
  | _ => execStUnused s.state s

end Sys2Proof.Machine
end

