-- ==== Sys2Proof/Machine/Receiver.lean ====
section
/-! DEFINITION. The receiver (40_receiver.md): the character rows, `NOISE`, the inbound frame rows, `ACCEPT`, `RXCHAR`,
`READFRAME`. -/

namespace Sys2Proof.Machine

/-! ### One presented character -/

/-- The input ports with the transport presenting a byte; the other lines as they are. -/
def present (b : Byte) (ferr : Bool) (s : State) : State :=
  { s with ports := { s.ports with rxValid := true, rxData := b, rxFerr := ferr } }

/-- The event line `RX b` or `RXF b` (R74): one clock step of the block on which the transport presents the byte. In a read
window the byte is consumed and filtered (R91, R92); elsewhere the block ignores it (R91, R100). -/
def rxEvent (b : Byte) (ferr : Bool) (s : State) : Result := runState (present b ferr s)

/-- `CH_0` (R60). -/
def execCh0 (s : State) : Result := rxEvent 0x30#8 false s

/-- `CH_1` (R60). -/
def execCh1 (s : State) : Result := rxEvent 0x31#8 false s

/-- `CH_2` (R60). -/
def execCh2 (s : State) : Result := rxEvent 0x32#8 false s

/-- `CH_3` (R60). -/
def execCh3 (s : State) : Result := rxEvent 0x33#8 false s

/-- `CH_4` (R60). -/
def execCh4 (s : State) : Result := rxEvent 0x34#8 false s

/-- `CH_5` (R60). -/
def execCh5 (s : State) : Result := rxEvent 0x35#8 false s

/-- `CH_6` (R60). -/
def execCh6 (s : State) : Result := rxEvent 0x36#8 false s

/-- `CH_7` (R60). -/
def execCh7 (s : State) : Result := rxEvent 0x37#8 false s

/-- `CH_8` (R60). -/
def execCh8 (s : State) : Result := rxEvent 0x38#8 false s

/-- `CH_9` (R60). -/
def execCh9 (s : State) : Result := rxEvent 0x39#8 false s

/-- `CH_A` (R60). -/
def execChA (s : State) : Result := rxEvent 0x41#8 false s

/-- `CH_B` (R60). -/
def execChB (s : State) : Result := rxEvent 0x42#8 false s

/-- `CH_C` (R60). -/
def execChC (s : State) : Result := rxEvent 0x43#8 false s

/-- `CH_D` (R60). -/
def execChD (s : State) : Result := rxEvent 0x44#8 false s

/-- `CH_E` (R60). -/
def execChE (s : State) : Result := rxEvent 0x45#8 false s

/-- `CH_F` (R60). -/
def execChF (s : State) : Result := rxEvent 0x46#8 false s

/-- `CH_G` (R60). -/
def execChG (s : State) : Result := rxEvent 0x47#8 false s

/-- `CH_H` (R60). -/
def execChH (s : State) : Result := rxEvent 0x48#8 false s

/-- `CH_Y` (R60). -/
def execChY (s : State) : Result := rxEvent 0x59#8 false s

/-- `NOISE` (R62): a byte outside the whitelist, or any byte with a framing error. -/
def execNoise (b : Byte) (ferr : Bool) (s : State) : Result := rxEvent b ferr s

/-! ### Frames from the device -/

/-- The device sends the characters in order, one on each clock step (R43). -/
def rxFrame : List Byte → State → Result
  | [], s => .next s
  | c :: rest, s => andThen (rxEvent c false s) (rxFrame rest)

/-- The step of `Validate` if the block is there (R162, R114). -/
def validateIfThere (s : State) : Result := if s.isIn .validate = true then runState s else .next s

/-- The step of `Compute` if the block is there (R163, R115). -/
def computeIfThere (s : State) : Result := if s.isIn .compute = true then runState s else .next s

/-- `FRAME_INBOUND` (R63): the device sends `'G'` and the five characters; a frame that is received whole is then validated
and decoded (R113, R114, R115). -/
def execFrameInbound (d0 d1 d2 d3 k : Byte) (s : State) : Result :=
  andThen (rxFrame [0x47#8, d0, d1, d2, d3, k] s) (fun t => andThen (validateIfThere t) computeIfThere)

/-- `FRAME_ACK` (R66, R165): the device sends the one character `'Y'`. -/
def execFrameAck (s : State) : Result := rxFrame [0x59#8] s

/-! ### Receiver operations -/

/-- `ACCEPT` (R90): a pure function; no register changes. -/
def execAccept (b : Byte) (ferr : Bool) (s : State) : Result :=
  .next { s with wires := { s.wires with accept := Sys2Proof.Machine.accept b ferr } }

/-- `RXCHAR` (R92): in a read window the presented byte is consumed, into the buffer of that window if it is accepted;
outside one nothing is consumed (R91). The window's step performs it only where `xport_err` is 0 (R96, R161, R165), and no rule says
what it does alone where that input is 1. DESIGN CHOICE, log entry 27: it does not look at `xport_err`. -/
def execRxchar (s : State) : Result :=
  if s.isIn .awaitInbound = true then andThen (rxCharInbound s) (fun t => .next (consumeByte t))
  else if s.isIn .awaitAck = true then .next (consumeByte (rxCharAck s))
  else .next s

/-- How one edge of an operation of several steps leaves it. -/
inductive EdgeEnd where
  /-- it goes on at the next edge -/
  | more
  /-- it is complete, and the rest of this step's rule is still to run on the same inputs -/
  | openStep
  /-- it has ended with this step -/
  | closedStep
deriving DecidableEq, Repr

/-- The state an edge leaves, and whether the operation goes on. Once the step is over the next inputs come to the ports; while
its rule is still to run its inputs stay there, but for the tick, which the operation has seen (log entry 9). -/
def endEdge (p : State × EdgeEnd) : State × Bool :=
  match p.2 with
  | .more => (advance p.1, true)
  | .openStep => (consumeTick p.1, false)
  | .closedStep => (advance p.1, false)

/-- One rising edge of `clk` in an operation of several steps; reset ends the operation (R220). -/
def oneEdge (edge : State → Host.Outcome (State × EdgeEnd) Fault Refusal) (s : State) :
    Host.Outcome (State × Bool) Fault Refusal :=
  match sampleConfig s with
  | none => .refused .configChangedInAttempt
  | some s1 =>
    if s1.ports.rst = true then .next (advance (resetRegs s1), false)
    else if s1.cfg.wf = true then andThen (edge s1) (fun p => .next (endEdge p))
    else .refused .configOutsideLimits

/-- An operation of several clock steps, edge after edge while it goes on and the environment's listed inputs last (log
entry 9). -/
def manyEdges (edge : State → Host.Outcome (State × EdgeEnd) Fault Refusal) : List Inputs → State → Result
  | [], s => andThen (oneEdge edge s) (fun p => .next p.1)
  | _ :: rest, s => andThen (oneEdge edge s) (fun p => if p.2 = true then manyEdges edge rest p.1 else .next p.1)

/-- How a step of a read window leaves it: the count is complete or the deadline has expired (R93, R94). -/
def windowEnd (complete : Bool) (s : State) : EdgeEnd :=
  if complete = true ∨ expired s = true then .openStep else .more

/-- One step of the inbound window, on the state after the prelude (R93, R94): the byte, then the tick, then completion and
expiry. -/
def inboundEdge (expected : Nat) (s : State) : Host.Outcome (State × EdgeEnd) Fault Refusal :=
  andThen (rxCharInbound s) (fun t => .next (dec t, windowEnd (decide (expected ≤ t.rxCnt)) (dec t)))

/-- One step of the acknowledgement window, on the state after the prelude: an accepted byte ends it at once (R165). -/
def ackEdge (s : State) : State × EdgeEnd :=
  if rxTakes s = true then (rxCharAck s, .openStep) else (dec s, windowEnd false (dec s))

/-- One step of a read in the window the block is in (R93, R96): a transport failure ends the read by `Fail(TransportError)`;
else the byte of this step is consumed (R48), into the buffer of that window. -/
def readEdge (expected : Nat) (s : State) : Host.Outcome (State × EdgeEnd) Fault Refusal :=
  if s.ports.xportErr = true then .next (raiseFail .transportError (prelude s), .closedStep)
  else
    andThen (if s.isIn .awaitInbound = true then inboundEdge expected (prelude s) else .next (ackEdge (prelude s)))
      (fun p => .next (consumeByte p.1, p.2))

/-- The window has all the characters a read of `expected` asks for (R93: `k = L`): `rx_cnt` of them, or the one of `ack_v`. -/
def readComplete (expected : Nat) (s : State) : Bool :=
  if s.isIn .awaitInbound = true then decide (expected ≤ s.rxCnt) else s.ackV

/-- `READFRAME` (R93): a bounded read of `expected` accepted characters within `deadline` ticks. Its result stands in
`rx_buf`, `rx_cnt` or in `ack_char`, `ack_v`; a short result is no error. R93 gives it for `AwaitInbound` with 6 and for `AwaitAck`
with 1. DESIGN CHOICE, log entry 9: the window picks the buffer, as for `RXCHAR`, whatever the length asked for, the
acknowledgement read ending with its first accepted character; outside the windows nothing is consumed (R91) and nothing else
changes, and the same holds in a window that has all the characters asked for already. -/
def execReadframe (expected deadline : Nat) (s : State) : Result :=
  if rxReady s = true ∧ readComplete expected s = false then
    manyEdges (readEdge expected) s.env { s with timer := deadline }
  else .next s

end Sys2Proof.Machine
end

