-- ==== Sys2Proof/Machine/Transmitter.lean ====
section
/-! DEFINITION. The transmitter (43_transmitter.md): `TXCHAR`, `WRITEFRAME`, `SETTXLINE`. -/

namespace Sys2Proof.Machine

/-- One step of presenting a character (R140, R143): on `tx_done` the gap begins. -/
def charEdge (onDone : EdgeEnd) (s : State) : State × EdgeEnd :=
  if s.ports.xportErr = true then (raiseFail .transportError s, .closedStep)
  else if s.ports.txDone = true then ({ s with timer := s.cfg.txGapTicks, txPhase := TxPhase.gap.code }, onDone)
  else (s, .more)

/-- One step of the gap after a character (R141, R143). -/
def gapEdge (s : State) : State × EdgeEnd :=
  if s.ports.xportErr = true then (raiseFail .transportError s, .closedStep)
  else if expired (dec s) = true then
    if s.txIdx + 1 = s.txLen then (dec s, .openStep)
    else ({ dec s with txIdx := s.txIdx + 1, txPhase := TxPhase.char.code }, .more)
  else (dec s, .more)

/-- One step of writing a frame (R141). -/
def writeEdge (s : State) : State × EdgeEnd :=
  if s.txPhase = TxPhase.gap.code then gapEdge (prelude s) else charEdge .more (prelude s)

/-- `TXCHAR` (R140): `tx_buf[tx_idx]` is presented until `tx_done`; unanswered it waits for ever. R140 gives it for the state
`Transmit`. DESIGN CHOICE, log entry 9: elsewhere no character is presented and no answer is looked at (R24, R200), so nothing
changes. -/
def execTxchar (s : State) : Result :=
  if s.isIn .transmit = true then
    manyEdges (fun t => .next (charEdge .closedStep (prelude t))) s.env { s with txPhase := TxPhase.char.code }
  else .next s

/-- `WRITEFRAME` (R141): the characters of `tx_buf[0..tx_len-1]` in order, a gap after each. DESIGN CHOICE, log entry 9: an empty
frame is no write, and outside the state `Transmit` nothing changes, as for `TXCHAR`. -/
def execWriteframe (s : State) : Result :=
  if s.isIn .transmit = true ∧ 0 < s.txLen then
    manyEdges (fun t => .next (writeEdge t)) s.env { s with txIdx := 0, txPhase := TxPhase.char.code }
  else .next s

/-- `SETTXLINE` (R144): the one register write. R144 gives it no step of its own. DESIGN CHOICE, log entry 28: alone it takes no
clock edge, so no input is sampled and the inputs stay at the ports. -/
def execSettxline (active : Bool) (s : State) : Result := .next (setTxLine active s)

end Sys2Proof.Machine
end

