-- ==== Sys2Proof/Machine/Dispatch.lean ====
section
/-! DEFINITION. The meaning of every row of spec/opcode_table.json: one direct call each. -/

namespace Sys2Proof.Machine

def exec (i : Instr) (s : State) : Host.Outcome State Fault Refusal :=
  match i with
  | .ch0 => Sys2Proof.Machine.execCh0 s
  | .ch1 => Sys2Proof.Machine.execCh1 s
  | .ch2 => Sys2Proof.Machine.execCh2 s
  | .ch3 => Sys2Proof.Machine.execCh3 s
  | .ch4 => Sys2Proof.Machine.execCh4 s
  | .ch5 => Sys2Proof.Machine.execCh5 s
  | .ch6 => Sys2Proof.Machine.execCh6 s
  | .ch7 => Sys2Proof.Machine.execCh7 s
  | .ch8 => Sys2Proof.Machine.execCh8 s
  | .ch9 => Sys2Proof.Machine.execCh9 s
  | .chA => Sys2Proof.Machine.execChA s
  | .chB => Sys2Proof.Machine.execChB s
  | .chC => Sys2Proof.Machine.execChC s
  | .chD => Sys2Proof.Machine.execChD s
  | .chE => Sys2Proof.Machine.execChE s
  | .chF => Sys2Proof.Machine.execChF s
  | .chG => Sys2Proof.Machine.execChG s
  | .chH => Sys2Proof.Machine.execChH s
  | .chY => Sys2Proof.Machine.execChY s
  | .noise b ferr => Sys2Proof.Machine.execNoise b ferr s
  | .frameInbound d0 d1 d2 d3 k => Sys2Proof.Machine.execFrameInbound d0 d1 d2 d3 k s
  | .frameOutboundPadP0 h0 h1 h2 h3 k => Sys2Proof.Machine.execFrameOutboundPadP0 h0 h1 h2 h3 k s
  | .frameOutboundUnpadP0D1 h3 k => Sys2Proof.Machine.execFrameOutboundUnpadP0D1 h3 k s
  | .frameOutboundUnpadP0D2 h2 h3 k => Sys2Proof.Machine.execFrameOutboundUnpadP0D2 h2 h3 k s
  | .frameOutboundUnpadP0D3 h1 h2 h3 k => Sys2Proof.Machine.execFrameOutboundUnpadP0D3 h1 h2 h3 k s
  | .frameOutboundPadP1 p h0 h1 h2 h3 k => Sys2Proof.Machine.execFrameOutboundPadP1 p h0 h1 h2 h3 k s
  | .frameOutboundUnpadP1D1 p h3 k => Sys2Proof.Machine.execFrameOutboundUnpadP1D1 p h3 k s
  | .frameOutboundUnpadP1D2 p h2 h3 k => Sys2Proof.Machine.execFrameOutboundUnpadP1D2 p h2 h3 k s
  | .frameOutboundUnpadP1D3 p h1 h2 h3 k => Sys2Proof.Machine.execFrameOutboundUnpadP1D3 p h1 h2 h3 k s
  | .frameOutboundPadP2 p q h0 h1 h2 h3 k => Sys2Proof.Machine.execFrameOutboundPadP2 p q h0 h1 h2 h3 k s
  | .frameOutboundUnpadP2D1 p q h3 k => Sys2Proof.Machine.execFrameOutboundUnpadP2D1 p q h3 k s
  | .frameOutboundUnpadP2D2 p q h2 h3 k => Sys2Proof.Machine.execFrameOutboundUnpadP2D2 p q h2 h3 k s
  | .frameOutboundUnpadP2D3 p q h1 h2 h3 k => Sys2Proof.Machine.execFrameOutboundUnpadP2D3 p q h1 h2 h3 k s
  | .frameAck => Sys2Proof.Machine.execFrameAck s
  | .accept b ferr => Sys2Proof.Machine.execAccept b ferr s
  | .rxchar => Sys2Proof.Machine.execRxchar s
  | .readframe expected deadline => Sys2Proof.Machine.execReadframe expected deadline s
  | .hexval c => Sys2Proof.Machine.execHexval c s
  | .hexchar v => Sys2Proof.Machine.execHexchar v s
  | .checksum v0 v1 v2 v3 => Sys2Proof.Machine.execChecksum v0 v1 v2 v3 s
  | .decodeinbound => Sys2Proof.Machine.execDecodeinbound s
  | .verifychecksum => Sys2Proof.Machine.execVerifychecksum s
  | .decodereading => Sys2Proof.Machine.execDecodereading s
  | .encodeoutbound sp => Sys2Proof.Machine.execEncodeoutbound sp s
  | .computesetpoint raw tref => Sys2Proof.Machine.execComputesetpoint raw tref s
  | .txchar => Sys2Proof.Machine.execTxchar s
  | .writeframe => Sys2Proof.Machine.execWriteframe s
  | .settxline active => Sys2Proof.Machine.execSettxline active s
  | .stIdle => Sys2Proof.Machine.execStIdle s
  | .stPowerup => Sys2Proof.Machine.execStPowerup s
  | .stAwaitinbound => Sys2Proof.Machine.execStAwaitinbound s
  | .stValidate => Sys2Proof.Machine.execStValidate s
  | .stCompute => Sys2Proof.Machine.execStCompute s
  | .stTransmit => Sys2Proof.Machine.execStTransmit s
  | .stAwaitack => Sys2Proof.Machine.execStAwaitack s
  | .stPass => Sys2Proof.Machine.execStPass s
  | .stFail => Sys2Proof.Machine.execStFail s
  | .stPowerdown => Sys2Proof.Machine.execStPowerdown s
  | .stShutdown => Sys2Proof.Machine.execStShutdown s
  | .stUnused code => Sys2Proof.Machine.execStUnused code s
  | .txphEnc => Sys2Proof.Machine.execTxphEnc s
  | .txphChar => Sys2Proof.Machine.execTxphChar s
  | .txphGap => Sys2Proof.Machine.execTxphGap s
  | .resNone => Sys2Proof.Machine.execResNone s
  | .resPending => Sys2Proof.Machine.execResPending s
  | .resPassed => Sys2Proof.Machine.execResPassed s
  | .resFailed => Sys2Proof.Machine.execResFailed s
  | .rsnNone => Sys2Proof.Machine.execRsnNone s
  | .rsnIncomplete => Sys2Proof.Machine.execRsnIncomplete s
  | .rsnBadsentinel => Sys2Proof.Machine.execRsnBadsentinel s
  | .rsnChecksummismatch => Sys2Proof.Machine.execRsnChecksummismatch s
  | .rsnInvalidreading => Sys2Proof.Machine.execRsnInvalidreading s
  | .rsnValueoutofrange => Sys2Proof.Machine.execRsnValueoutofrange s
  | .rsnTransporterror => Sys2Proof.Machine.execRsnTransporterror s
  | .rsnUnverified => Sys2Proof.Machine.execRsnUnverified s

end Sys2Proof.Machine
end

