-- ==== Sys2Proof/Machine/Fetch.lean ====
section
/-! DEFINITION. Where the next step finds its word (log entries 3 and 4): `Step.lean` calls these. -/

namespace Sys2Proof.Machine

/-- The machine as it stands in a state of an attempt: powered up, then entered there (R158). -/
def attemptIn (enterY : State → State) (s : State) : State := enterY (enterPowerUp s)

/-- The step's answer on the word it fetches. -/
def runWord (run : Instr → State → Result) (s : State) : Result :=
  match decode (fetchWord s) with
  | .ok i => run i (clearSlot s)
  | .error e => .refused (.undecodable e)

/-- An attempt that stands in `Transmit` phase `ENC`: the window is entered on the way, so the transmit line is idle there, as R51 and
R30(d) say. No reading and no set-point stands behind it (log entry 3). -/
def attemptInTransmit (s : State) : State := attemptIn (fun t => enterTransmit (enterAwaitInbound t)) s

/-- A table word put where the next step decodes it. A state code goes into the `state` register; a character is presented by
the transport in an open inbound window; a frame from the device stands in the slot of a block in the window that reads it, an
outbound frame in the slot of a block in `Transmit`; any other word in the slot. The further edges a six-character frame takes
have inputs of 0. -/
def placeWord (w : OpWord) (s : State) : State :=
  match w.format, w.bytes with
  | .state4, [b] => { s with state := b.setWidth 4, slot := none }
  | .char8 ferr, [b] => present b ferr { attemptIn enterAwaitInbound s with slot := none }
  | .frame, _ =>
    match decode w with
    | .ok (.frameInbound _ _ _ _ _) =>
      { attemptIn enterAwaitInbound s with slot := some w, env := List.replicate 8 Inputs.idle }
    | .ok .frameAck => { attemptIn enterAwaitAck s with slot := some w }
    | _ => { attemptInTransmit s with slot := some w }
  | _, _ => { s with slot := some w }

end Sys2Proof.Machine
end

