-- ==== Sys2Proof/Machine/Step.lean ====
section
/-! DEFINITION. One step of the machine: the word of the `state` register (or the placed word) is decoded and run. -/

namespace Sys2Proof.Machine

/-- One step: decode the fetched word, run the row it decodes to. -/
def step (s : State) : Host.Outcome State Fault Refusal := runWord exec s

/-- The state whose next step fetches and runs the given table word. -/
def State.withFetchWord (s : State) (nbits w : Nat) : State := placeWord (tableWord nbits w) s

end Sys2Proof.Machine
end

