-- ==== Sys2Proof/Machine/Outputs.lean ====
section
/-! DEFINITION. The output ports (R24) and the log record (R76): functions of the registers after the edge. -/

namespace Sys2Proof.Machine

/-- `n` elements of a frame buffer as one number, element `i` in bits `8i+7 : 8i` (R76). -/
def packBuffer (m : Memory) : Nat → Nat
  | 0 => 0
  | n + 1 => packBuffer m n + (m.read n).toNat * 256 ^ n

/-- The output ports of R24, and the log record's `ref_lat` (R163, R190). -/
structure Outputs where
  devPower : Bool
  progEn : Bool
  txLineActive : Bool
  rxReady : Bool
  txValid : Bool
  txData : Byte
  indBusy : Bool
  indError : Bool
  indPass : Bool
  logValid : Bool
  logRxBuf : BitVec 48
  logRxCnt : BitVec 3
  logReading : BitVec 16
  logReadingV : Bool
  /-- `ref_lat` in the log record (R163, R190), `TEMP_W` bits signed; the port's name is the model's (log entry 29) -/
  logRefLat : Int
  logTxBuf : BitVec 72
  logTxLen : BitVec 4
  /-- `log_setpoint`, `SP_W` bits signed -/
  logSetpoint : Int
  logSetpointV : Bool
  logResult : BitVec 2
  logReason : BitVec 3
  logAckChar : Byte
  logAckV : Bool
  stateO : BitVec 4
deriving DecidableEq, Repr

/-- `tx_valid` (R24, R140). -/
def txValid (s : State) : Bool := s.isIn .transmit && s.txPhase == TxPhase.char.code

/-- `ind_busy` (R24, R209): the states from `PowerUp` to `AwaitAck`. -/
def indBusy (s : State) : Bool :=
  s.isIn .powerUp || s.isIn .awaitInbound || s.isIn .validate || s.isIn .compute || s.isIn .transmit || s.isIn .awaitAck

/-- R24. `tx_data` while `tx_valid = 0` is unspecified and presented as 0x00 (log entry 20). The log record
shows `ref_lat`, as R163 and R190 say. The lists of R24 and R76 name no port for it. DESIGN CHOICE, log entry 29: the port is
`logRefLat`, in the register's width, with no valid flag of its own. -/
def outputs (s : State) : Outputs where
  devPower := s.devPower
  progEn := s.progEn
  txLineActive := s.txLineActive
  rxReady := rxReady s
  txValid := txValid s
  txData := if txValid s = true then s.txBuf.read s.txIdx else 0
  indBusy := indBusy s
  indError := s.isIn .fail
  indPass := s.isIn .pass
  logValid := s.logPend
  logRxBuf := BitVec.ofNat 48 (packBuffer s.rxBuf 6)
  logRxCnt := BitVec.ofNat 3 s.rxCnt
  logReading := s.reading
  logReadingV := s.readingV
  logRefLat := s.refLat
  logTxBuf := BitVec.ofNat 72 (packBuffer s.txBuf 9)
  logTxLen := BitVec.ofNat 4 s.txLen
  logSetpoint := s.setpoint
  logSetpointV := s.setpointV
  logResult := s.result
  logReason := s.reason
  logAckChar := s.ackChar
  logAckV := s.ackV
  stateO := s.state

end Sys2Proof.Machine
end

