-- ==== Sys2Proof/Machine/SerialLine.lean ====
section
/-! DEFINITION. The serial character format below the byte boundary (R69, R45, R97, R145, R146): what one character looks like on
the line, and what the transport presents of it. No rule of the block depends on it (log entry 22). -/

namespace Sys2Proof.Machine

/-- The level of a driven line between characters: high (R69, R145). -/
def idleLevel : Bool := true

/-- One bit time, in seconds (R69). -/
def bitTime : Rat := 1 / Config.baud

/-- The bit times one character occupies (R69). -/
def characterBitTimes (stopBits : Nat) : Nat := 1 + Config.dataBits + stopBits

/-- The line levels of one character, one per bit time (R69): a start bit low, eight data bits, least significant first, and
the stop bits high. -/
def serialise (stopBits : Nat) (b : Byte) : List Bool :=
  false :: (List.range 8).map (fun i => b.getLsbD i) ++ List.replicate stopBits true

/-- The number whose bit `i` is element `i`. -/
def bitsToNat : List Bool → Nat
  | [] => 0
  | b :: rest => b.toNat + 2 * bitsToNat rest

/-- What the transport presents of the levels of one character (R97): nothing without a start bit; else the data bits as the
byte, with `rx_ferr` iff the first stop bit was sampled low. -/
def deserialise (levels : List Bool) : Option (Byte × Bool) :=
  if levels.length < 10 ∨ levels.getD 0 idleLevel = idleLevel then none
  else some (BitVec.ofNat 8 (bitsToNat ((levels.drop 1).take 8)), !levels.getD 9 idleLevel)

/-- The serialiser's level: of bit time `n` of the character it is sending (R146), and the idle level between characters (R145). -/
def serialiserLevel (stopBits : Nat) : Option (Byte × Nat) → Bool
  | none => idleLevel
  | some (b, n) => (serialise stopBits b).getD n idleLevel

/-- The transmit pin (R145): driven with the serialiser's level while the line is active, else not driven (`none`). -/
def txPin (s : State) (sending : Option (Byte × Nat)) : Option Bool :=
  if s.txLineActive = true then some (serialiserLevel s.cfg.stopBits sending) else none

end Sys2Proof.Machine
end

