-- ==== Sys2Proof/Safety.lean ====
section
/-! DEFINITION. The terms the statements use: an ordinary clock edge, what a list of input vectors brings, and the invariant of
the block (R30, with R15, R19, R20, R21, R25, R76, R135, R174). -/

namespace Sys2Proof.Machine

/-- A clock edge on which a state rule runs: no reset, the configuration lines held, a legal configuration. -/
abbrev Ordinary (s : State) : Prop :=
  s.ports.rst = false ∧ s.ports.reconfig = none ∧ s.cfg.wf = true

/-- `MemWrite(buf, i + j, f[j])` for every element of the frame, in order (R40). -/
def Memory.writeList (m : Memory) : Nat → List Byte → Memory
  | _, [] => m
  | i, c :: rest => Memory.writeList (m.write i c) (i + 1) rest

/-! ### The spec's rows, written out field by field for the statements -/

/-- The state with the prelude's latch (R156): `exit_pend <- exit_pend or exit_req`. -/
def latched (s : State) : State := { s with exitPend := s.exitPend || s.ports.exitReq }

/-- `clear_attempt` (R158), as one record. -/
def cleared (s : State) : State :=
  { s with
    rxBuf := [], rxCnt := 0, ackChar := 0, ackV := false, reading := 0, readingV := false, refLat := 0, setpoint := 0,
    setpointV := false, txBuf := [], txLen := 0, txIdx := 0, txPhase := 0, reason := 0 }

/-- The row `PowerDown` of R158's table. -/
def rowPowerDown (s : State) : State :=
  { s with devPower := false, progEn := false, txLineActive := false, logPend := false, state := 9 }

/-- The row `Fail, r` of R158's table, with the reason's code (R72). -/
def rowFail (code : BitVec 3) (s : State) : State :=
  { s with result := 3, reason := code, txLineActive := false, logPend := true, timer := s.cfg.indHoldTicks, state := 8 }

/-- The row `Pass` of R158's table. -/
def rowPass (s : State) : State :=
  { s with result := 2, txLineActive := false, logPend := true, timer := s.cfg.indHoldTicks, state := 7 }

/-- The configuration in force on an edge at which a change is allowed (R52, R222; log entry 15). -/
def configTaken (s : State) : Config :=
  match s.ports.reconfig with
  | none => s.cfg
  | some c => { c with timerW := s.cfg.timerW }

/-- Every register at its reset value (R29), under the configuration taken on that edge. -/
def rowReset (s : State) : State :=
  { cleared s with
    state := 0, timer := 0, exitPend := false, devPower := false, progEn := false, txLineActive := false, result := 0,
    logPend := false, cfg := configTaken s }

/-- `goto` (R157): the target's row, or the row `PowerDown` when an exit request is latched or made on this step. -/
def orExit (s : State) (target : State → State) : State :=
  if (s.exitPend || s.ports.exitReq) = true then rowPowerDown s else target s

/-- The state after an accepted inbound character `b` (R92): stored at index `rx_cnt`, which then counts one more. -/
def withCharacter (b : Byte) (s : State) : State := { s with rxBuf := s.rxBuf.write s.rxCnt b, rxCnt := s.rxCnt + 1 }

/-- The state with an outbound frame loaded (R164, phase `ENC`). -/
def withFrame (f : List Byte) (s : State) : State :=
  { s with txBuf := s.txBuf.writeList 0 f, txLen := f.length, txIdx := 0, txLineActive := true, txPhase := 1 }

/-- The end of a step of the inbound window (R161), on the state after the byte and the tick. -/
def windowStep (s : State) : State :=
  if s.rxCnt = 6 ∨ s.timer = 0 then
    orExit s (fun u =>
      if u.rxCnt < 6 then rowFail 1 u else if u.rxBuf.read 0 ≠ 0x47#8 then rowFail 2 u else { u with state := 3 })
  else s

/-! ### The rows of the table -/

/-- The fourteen operations, which have no opcode bits (R75). -/
def isOperation : Instr → Bool
  | .accept _ _ | .rxchar | .readframe _ _ | .hexval _ | .hexchar _ | .checksum _ _ _ _ | .decodeinbound => true
  | .verifychecksum | .decodereading | .encodeoutbound _ | .computesetpoint _ _ | .txchar | .writeframe => true
  | .settxline _ => true
  | _ => false

/-- The nineteen character rows with their codes (R60). -/
def characterRows : List (Instr × Byte) :=
  [(.ch0, 0x30), (.ch1, 0x31), (.ch2, 0x32), (.ch3, 0x33), (.ch4, 0x34), (.ch5, 0x35), (.ch6, 0x36), (.ch7, 0x37),
   (.ch8, 0x38), (.ch9, 0x39), (.chA, 0x41), (.chB, 0x42), (.chC, 0x43), (.chD, 0x44), (.chE, 0x45), (.chF, 0x46),
   (.chG, 0x47), (.chH, 0x48), (.chY, 0x59)]

/-- The eleven state rows with their codes (R70). -/
def stateRows : List (Instr × BitVec 4) :=
  [(.stIdle, 0), (.stPowerup, 1), (.stAwaitinbound, 2), (.stValidate, 3), (.stCompute, 4), (.stTransmit, 5),
   (.stAwaitack, 6), (.stPass, 7), (.stFail, 8), (.stPowerdown, 9), (.stShutdown, 10)]

/-- The three phase rows with their codes (R19). -/
def phaseRows : List (Instr × BitVec 2) := [(.txphEnc, 0), (.txphChar, 1), (.txphGap, 2)]

/-- The characters of an outbound frame row (R64, R65). -/
def outboundFrame : Instr → Option (List Byte)
  | .frameOutboundPadP0 h0 h1 h2 h3 k => some [0x48, 0x30, h0, h1, h2, h3, k]
  | .frameOutboundUnpadP0D1 h3 k => some [0x48, 0x30, h3, k]
  | .frameOutboundUnpadP0D2 h2 h3 k => some [0x48, 0x30, h2, h3, k]
  | .frameOutboundUnpadP0D3 h1 h2 h3 k => some [0x48, 0x30, h1, h2, h3, k]
  | .frameOutboundPadP1 p h0 h1 h2 h3 k => some [p, 0x48, 0x30, h0, h1, h2, h3, k]
  | .frameOutboundUnpadP1D1 p h3 k => some [p, 0x48, 0x30, h3, k]
  | .frameOutboundUnpadP1D2 p h2 h3 k => some [p, 0x48, 0x30, h2, h3, k]
  | .frameOutboundUnpadP1D3 p h1 h2 h3 k => some [p, 0x48, 0x30, h1, h2, h3, k]
  | .frameOutboundPadP2 p q h0 h1 h2 h3 k => some [p, q, 0x48, 0x30, h0, h1, h2, h3, k]
  | .frameOutboundUnpadP2D1 p q h3 k => some [p, q, 0x48, 0x30, h3, k]
  | .frameOutboundUnpadP2D2 p q h2 h3 k => some [p, q, 0x48, 0x30, h2, h3, k]
  | .frameOutboundUnpadP2D3 p q h1 h2 h3 k => some [p, q, 0x48, 0x30, h1, h2, h3, k]
  | _ => none

/-! ### Numbers in characters -/

/-- The number a list of hex digit characters stands for, most significant first (R44). -/
def numberOf (ds : List Byte) : Nat := ds.foldl (fun n d => 16 * n + (hexval d).2.toNat) 0

/-- The sum of the digit values (R112). -/
def digitSum (ds : List Byte) : Nat := ds.foldl (fun n d => n + (hexval d).2.toNat) 0

/-! ### Timers and input vectors -/

/-- The timer after `dec(tick)` (R175). -/
def timerAfter (s : State) : Nat := if s.ports.tick = true ∧ 0 < s.timer then s.timer - 1 else s.timer

/-- The input vector leaves a read or write in flight alone: no reset, no transport failure, configuration lines held. -/
abbrev Inputs.undisturbed (i : Inputs) : Prop :=
  i.rst = false ∧ i.xportErr = false ∧ i.reconfig = none

/-- The accepted characters a run of input vectors presents, in order (R93). -/
def acceptedOf (ins : List Inputs) : List Byte :=
  ins.filterMap (fun i => if i.rxValid && accept i.rxData i.rxFerr then some i.rxData else none)

/-- The ticks in a run of input vectors. -/
def ticksOf (ins : List Inputs) : Nat := ins.countP (fun i => i.tick)

/-- An exit request in a run of input vectors. -/
def exitsOf (ins : List Inputs) : Bool := ins.any (fun i => i.exitReq)

/-- A read window of `expected` characters and `deadline` ticks has ended by the end of these steps (R93). -/
abbrev WindowOver (expected deadline : Nat) (ins : List Inputs) : Prop :=
  (acceptedOf ins).length = expected ∨ deadline ≤ ticksOf ins

/-- The window ends exactly with the `n`-th step: over then, and at no earlier step. -/
abbrev WindowEndsAt (expected deadline n : Nat) (ins : List Inputs) : Prop :=
  0 < n ∧ n ≤ ins.length ∧ WindowOver expected deadline (ins.take n) ∧
    ∀ m, m < n → 0 < m → ¬ WindowOver expected deadline (ins.take m)

/-- The state with `n` more input vectors taken from its list (log entry 1). -/
def takeInputs : Nat → State → State
  | 0, s => s
  | n + 1, s => takeInputs n (advance s)

/-- `n` steps of the block, stopping at the first fault or refusal. -/
def runSteps : Nat → State → Result
  | 0, s => .next s
  | n + 1, s => andThen (step s) (runSteps n)

/-- The input vectors a state has listed, the coming edge's first. -/
abbrev listed (s : State) : List Inputs := s.ports :: s.env

/-- The first `n` listed input vectors bring no reset and hold the configuration lines. -/
abbrev OrdinaryFor (n : Nat) (s : State) : Prop :=
  n ≤ (listed s).length ∧ s.cfg.wf = true ∧ ∀ i ∈ (listed s).take n, i.rst = false ∧ i.reconfig = none

/-- The first `n` listed input vectors bring no reset and no transport failure and hold the configuration lines. -/
abbrev UndisturbedFor (n : Nat) (s : State) : Prop :=
  n ≤ (listed s).length ∧ s.cfg.wf = true ∧ ∀ i ∈ (listed s).take n, Inputs.undisturbed i

/-- A step on which the transport answers the presented character. -/
def txDoneInput : Inputs := { Inputs.idle with txDone := true }

/-- A step with a tick. -/
def tickInput : Inputs := { Inputs.idle with tick := true }

/-- The inputs that stay at the ports when a read completes: its byte is consumed (R48) and its tick seen (log entry 9). -/
def readSpent (s : State) : State := { s with ports := { s.ports with rxValid := false, tick := false } }

/-- The inputs that stay at the ports when a write completes: its tick is seen (log entry 9). -/
def tickSpent (s : State) : State := { s with ports := { s.ports with tick := false } }

/-- The input vectors of one character of a write (R140, R141): the steps on which the transport has not answered yet, the step
of its `tx_done`, the steps of the gap. -/
structure WriteRound where
  waiting : List Inputs
  done : Inputs
  gap : List Inputs
deriving DecidableEq, Repr

/-- The vectors of a round, in order. -/
def WriteRound.inputs (r : WriteRound) : List Inputs := r.waiting ++ r.done :: r.gap

/-- The transport answers no earlier than on the step of `tx_done`, however late that is, and the gap ends exactly with its last
step: that of its `gapTicks`-th tick, or its first step for a gap of 0 (R141, R175). -/
abbrev WriteRound.legal (gapTicks : Nat) (r : WriteRound) : Prop :=
  (∀ i ∈ r.waiting, i.txDone = false) ∧ r.done.txDone = true ∧ 0 < r.gap.length ∧ gapTicks ≤ ticksOf r.gap ∧
    ∀ m, m < r.gap.length → 0 < m → ticksOf (r.gap.take m) < gapTicks

/-- The vectors of several rounds, in order. -/
def roundInputs (rs : List WriteRound) : List Inputs := rs.flatMap WriteRound.inputs

/-- The first `n` listed input vectors disturb nothing and the next one brings a transport failure. -/
abbrev FaultAfter (n : Nat) (s : State) : Prop :=
  UndisturbedFor n s ∧ n < (listed s).length ∧ ((listed s).getD n Inputs.idle).rst = false ∧
    ((listed s).getD n Inputs.idle).reconfig = none ∧ ((listed s).getD n Inputs.idle).xportErr = true

/-- The entry that `raise Fail(TransportError)` takes when the exit latch holds every request so far (R157). -/
def faultExit (s : State) : State := if s.exitPend = true then rowPowerDown s else rowFail 6 s

/-- The state code is one of those from `PowerUp` to `Fail`: the device is powered (R30 (c)). -/
abbrev PoweredCode (c : BitVec 4) : Prop := 1 ≤ c.toNat ∧ c.toNat ≤ 8

/-- The invariant of the block. It holds after reset and every step keeps it. -/
structure Invariant (s : State) : Prop where
  /-- no word is placed: every step runs the rule of the `state` register -/
  slot_free : s.slot = none
  /-- R30 (a) -/
  state_code : s.state.toNat ≤ 10
  /-- R30 (b) -/
  power_pair : s.devPower = s.progEn
  /-- R30 (c) -/
  powered_iff : s.devPower = true ↔ PoweredCode s.state
  /-- R30 (d) -/
  line_iff : s.txLineActive = true ↔ s.state = 1 ∨ (s.state = 5 ∧ (s.txPhase = 1 ∨ s.txPhase = 2))
  /-- R19: phase code 3 is unused -/
  phase_code : s.txPhase ≠ 3
  /-- R30 (e) -/
  rx_cnt_le : s.rxCnt ≤ 6
  /-- R30 (e) -/
  tx_len_le : s.txLen ≤ 9
  /-- R30 (e) -/
  tx_idx_lt : s.txIdx < max s.txLen 1
  /-- R30 (f) -/
  result_none : s.result = 0 ↔ s.state = 0 ∨ s.state = 10
  /-- R30 (f) -/
  result_pending : (1 ≤ s.state.toNat ∧ s.state.toNat ≤ 6) → s.result = 1
  /-- R30 (f) -/
  result_passed : s.state = 7 → s.result = 2
  /-- R30 (f) -/
  result_failed : s.state = 8 → s.result = 3
  /-- R30 (f): an attempt ends without a result only by an exit override -/
  result_override : s.state = 9 → s.result = 1 → s.exitPend = true
  /-- R20: a reason is recorded exactly with the result `Failed` -/
  reason_iff : s.reason ≠ 0 ↔ s.result = 3
  /-- R21 -/
  log_only_at_end : s.logPend = true → s.state = 7 ∨ s.state = 8
  /-- R12 -/
  timer_lt : s.timer < 2 ^ s.cfg.timerW
  /-- R30 (g) -/
  frame_needs_setpoint : 0 < s.txLen → s.setpointV = true
  /-- R30 (g) -/
  setpoint_needs_reading : s.setpointV = true → s.readingV = true
  /-- R30 (g) -/
  reading_needs_frame : s.readingV = true → s.rxCnt = 6
  /-- R168, R53: nothing of an attempt outlives it -/
  cleared_outside : s.state = 0 ∨ s.state = 10 → cleared s = s
  /-- R158: an attempt starts cleared -/
  cleared_at_start : s.state = 1 → cleared s = s
  /-- R161: the window is left when the sixth character is in -/
  window_open : s.state = 2 → s.rxCnt < 6 ∧ s.readingV = false ∧ s.ackV = false
  /-- R161: past the window the frame is whole and begins with the sentinel -/
  frame_whole : (3 ≤ s.state.toNat ∧ s.state.toNat ≤ 6) → s.rxCnt = 6 ∧ s.rxBuf.read 0 = 0x47#8 ∧ s.ackV = false
  /-- R162, R163 -/
  not_yet_read : s.state = 3 ∨ s.state = 4 → s.readingV = false
  /-- R162: `Compute` is reached only with a verified frame -/
  compute_verified : s.state = 4 → verifyChecksum s.rxBuf = true
  /-- R163: a recorded reading is that of the verified frame -/
  reading_is_decoded : s.readingV = true → verifyChecksum s.rxBuf = true ∧ s.reading = decodeReading s.rxBuf
  /-- R163, R131: a set-point is that of the reading and the reference temperature -/
  setpoint_is_computed : s.setpointV = true → computeSetPoint s.cfg s.reading s.refLat = some s.setpoint
  /-- R163, R164 -/
  transmit_has_setpoint : s.state = 5 ∨ s.state = 6 → s.setpointV = true
  /-- R164: before `ENC` no frame exists -/
  no_frame_before_enc : s.state = 5 → s.txPhase = 0 → s.txLen = 0
  /-- R164, R116, R174: a frame exists only for a set-point in range -/
  frame_in_range : 0 < s.txLen → 0 ≤ s.setpoint ∧ s.setpoint ≤ 65535
  /-- R164, R116: the frame in the buffer is the one of the set-point -/
  frame_is_encoded : 0 < s.txLen → encodeFrame s.cfg s.setpoint = some ((List.range s.txLen).map s.txBuf.read)
  /-- R164: a frame exists while it is sent and after -/
  frame_exists : (s.state = 5 ∧ s.txPhase ≠ 0) ∨ s.state = 6 → 0 < s.txLen
  /-- the frame buffers keep their canonical form -/
  rx_form : s.rxBuf.wf = true
  /-- the frame buffers keep their canonical form -/
  tx_form : s.txBuf.wf = true
  /-- R25 -/
  rx_valid : ∀ i, i < s.rxCnt → accept (s.rxBuf.read i) false = true
  /-- R15: invalid elements hold 0x00 -/
  rx_invalid : ∀ i, s.rxCnt ≤ i → s.rxBuf.read i = 0
  /-- R25 -/
  tx_valid : ∀ i, i < s.txLen → accept (s.txBuf.read i) false = true
  /-- R19: invalid elements hold 0x00 -/
  tx_invalid : ∀ i, s.txLen ≤ i → s.txBuf.read i = 0
  /-- R16, R25 -/
  ack_valid : s.ackV = true → accept s.ackChar false = true
  /-- R76: a field not produced holds 0 -/
  ack_invalid : s.ackV = false → s.ackChar = 0
  /-- R76 -/
  reading_invalid : s.readingV = false → s.reading = 0 ∧ s.refLat = 0
  /-- R76 -/
  setpoint_invalid : s.setpointV = false → s.setpoint = 0
  /-- R17: the reference temperature fits `TEMP_W` bits -/
  ref_fits : fitsSigned s.cfg.tempW s.refLat = true
  /-- R18, R135: the set-point fits `SP_W` bits -/
  setpoint_fits : fitsSigned s.cfg.spW s.setpoint = true

end Sys2Proof.Machine
end

