-- ==== Sys2Proof/Certificates/Slice0/Obligations.lean ====
section
/-! DEFINITION. The statements for the provers. A statement of a row's result writes the next state as one record, so that
everything it does not name is unchanged; `advance` brings the next input vector to the ports and touches no register. -/

section Statements

open Sys2Proof Sys2Proof.Machine

/-! ### Encoding -/

/-- A few words of the table, written from their encodings, decode to their rows (R60, R63, R64, R66, R70 to R72). The last line is
the model's choice of format for bare words (log entry 4). -/
def Obligations.WordsDecodeToTheirRows : Prop :=
  decode ⟨.char8 false, [0x59]⟩ = .ok .chY ∧
  decode ⟨.char8 true, [0x59]⟩ = .ok (.noise 0x59 true) ∧
  decode ⟨.char8 false, [0x5A]⟩ = .ok (.noise 0x5A false) ∧
  decode ⟨.frame, [0x47, 0x30, 0x32, 0x36, 0x32, 0x41]⟩ = .ok (.frameInbound 0x30 0x32 0x36 0x32 0x41) ∧
  decode ⟨.frame, [0x41, 0x41, 0x48, 0x30, 0x30, 0x32, 0x38, 0x42, 0x35]⟩ =
    .ok (.frameOutboundPadP2 0x41 0x41 0x30 0x32 0x38 0x42 0x35) ∧
  decode ⟨.frame, [0x41, 0x41, 0x48, 0x30, 0x32, 0x38, 0x42, 0x35]⟩ =
    .ok (.frameOutboundUnpadP2D3 0x41 0x41 0x32 0x38 0x42 0x35) ∧
  decode ⟨.frame, [0x59]⟩ = .ok .frameAck ∧
  decode ⟨.state4, [10]⟩ = .ok .stShutdown ∧ decode ⟨.state4, [11]⟩ = .ok (.stUnused 11) ∧
  decode ⟨.txphase2, [2]⟩ = .ok .txphGap ∧ decode ⟨.txphase2, [3]⟩ = .error .unusedPhaseCode ∧
  decode ⟨.result2, [2]⟩ = .ok .resPassed ∧ decode ⟨.reason3, [6]⟩ = .ok .rsnTransporterror ∧
  decodeTableWord 8 0x59 = some .chY ∧ decodeTableWord 8 0x0A = some .stShutdown

/-- Every well-formed row that is no operation has a word, and that word decodes to the row with every operand. -/
def Obligations.DecodeOfEncodeIsTheRow : Prop :=
  ∀ i : Instr, i.wf = true → isOperation i = false → ∃ w, encode i = some w ∧ decode w = .ok i

/-- No word has two rows and no bit of a word is dropped: what decodes encodes back to the same word. -/
def Obligations.EncodeOfDecodeIsTheWord : Prop :=
  ∀ (w : OpWord) (i : Instr), decode w = .ok i → encode i = some w

/-- R90, R60: a byte passes the filter iff it has no framing error and its bit pattern is one of the whitelist's, which are the
nineteen codes. -/
def Obligations.FilterAcceptsTheNineteenCodes : Prop :=
  ∀ (b : Byte) (ferr : Bool),
    (accept b ferr = true ↔
      ferr = false ∧
        ((b.toNat / 16 = 3 ∧ b.toNat % 16 ≤ 9) ∨ (b.toNat / 16 = 4 ∧ 1 ≤ b.toNat % 16 ∧ b.toNat % 16 ≤ 8) ∨
          b.toNat = 0x59)) ∧
    (accept b false = true ↔ b ∈ characterRows.map Prod.snd)

/-- R110, R111: the two digit lookups, and that they are inverse (R111's laws, which the spec marks as derived from R110). -/
def Obligations.DigitLookupsAreInverse : Prop :=
  (∀ c : Byte,
    (0x30 ≤ c.toNat ∧ c.toNat ≤ 0x39 → (hexval c).1 = true ∧ (hexval c).2.toNat = c.toNat - 0x30) ∧
    (0x41 ≤ c.toNat ∧ c.toNat ≤ 0x46 → (hexval c).1 = true ∧ (hexval c).2.toNat = c.toNat - 0x37) ∧
    (¬ (0x30 ≤ c.toNat ∧ c.toNat ≤ 0x39) → ¬ (0x41 ≤ c.toNat ∧ c.toNat ≤ 0x46) → hexval c = (false, 0)) ∧
    ((hexval c).1 = true → hexchar (hexval c).2 = c)) ∧
  (∀ v : Nibble,
    (hexchar v).toNat = (if v.toNat ≤ 9 then 0x30 + v.toNat else 0x37 + v.toNat) ∧
    hexval (hexchar v) = (true, v) ∧ accept (hexchar v) false = true)

/-! ### Codec -/

/-- R119 (a), (b): in a verifying frame, replacing any one of the five characters after the sentinel by another byte makes it
fail; exchanging digits is not detected; each digit string has exactly one checksum character. -/
def Obligations.WhatTheChecksumDetects : Prop :=
  (∀ d0 d1 d2 d3 k x : Byte, verifyChars d0 d1 d2 d3 k = true →
    (x ≠ d0 → verifyChars x d1 d2 d3 k = false) ∧ (x ≠ d1 → verifyChars d0 x d2 d3 k = false) ∧
    (x ≠ d2 → verifyChars d0 d1 x d3 k = false) ∧ (x ≠ d3 → verifyChars d0 d1 d2 x k = false) ∧
    (x ≠ k → verifyChars d0 d1 d2 d3 x = false)) ∧
  (∀ d0 d1 d2 d3 k : Byte,
    verifyChars d1 d0 d2 d3 k = verifyChars d0 d1 d2 d3 k ∧ verifyChars d0 d2 d1 d3 k = verifyChars d0 d1 d2 d3 k ∧
    verifyChars d0 d1 d3 d2 k = verifyChars d0 d1 d2 d3 k) ∧
  (∀ d0 d1 d2 d3 : Byte, hexDigits [d0, d1, d2, d3] = true →
    ∃ k, verifyChars d0 d1 d2 d3 k = true ∧ accept k false = true ∧ ∀ x, verifyChars d0 d1 d2 d3 x = true → x = k)

/-- R118, which the spec marks as derived from R110 to R116: what the padded encoder renders verifies, and reads back as the
value. -/
def Obligations.EncodedSetpointVerifiesAndReadsBack : Prop :=
  ∀ (cfg : Config) (v : Nat), cfg.wf = true → cfg.padHex = true → v ≤ 65535 →
    ∃ h0 h1 h2 h3 c,
      encodeFrame cfg v = some (cfg.addrPrefix ++ [0x48, 0x30, h0, h1, h2, h3, c]) ∧
      verifyChecksum (Memory.writeList [] 0 [0x47, h0, h1, h2, h3, c]) = true ∧
      (decodeReading (Memory.writeList [] 0 [0x47, h0, h1, h2, h3, c])).toNat = v

/-- R116, R64, R65, R68: the outbound frame of a set-point is the prefix, `'H'`, `'0'`, the set-point's hexadecimal digits (four,
or without leading zeros), and their checksum; outside 0..65535 there is none. -/
def Obligations.OutboundFrameLayout : Prop :=
  ∀ (cfg : Config) (sp : Int), cfg.wf = true →
    (sp < 0 ∨ 65535 < sp → encodeFrame cfg sp = none) ∧
    (0 ≤ sp → sp ≤ 65535 →
      ∃ (d : Byte) (ds : List Byte) (ck : Byte),
        encodeFrame cfg sp = some (cfg.addrPrefix ++ [0x48, 0x30] ++ (d :: ds) ++ [ck]) ∧
        hexDigits (d :: ds) = true ∧ (numberOf (d :: ds) : Int) = sp ∧
        (cfg.padHex = true → ds.length = 3) ∧
        (cfg.padHex = false → ds.length ≤ 3 ∧ (d = 0x30 → ds = [])) ∧
        ck = hexchar (BitVec.ofNat 4 (digitSum (d :: ds) % 16)))

/-- The `ENC` step with a set-point in range does what the row of the frame it builds does: codec, decoder and frame rows
agree. That a frame row is this step is the model's choice (log entry 7). -/
def Obligations.EncStepIsTheFrameRow : Prop :=
  ∀ (s : State) (f : List Byte), Ordinary s → encodeFrame s.cfg s.setpoint = some f →
    ∃ i, decode (.ofFrame f) = .ok i ∧ i.wf = true ∧ outboundFrame i = some f ∧ exec .txphEnc s = exec i s

/-! ### Calibrator -/

/-- R133, R131, R132: `tdiv` rounds toward zero at every sign combination; a zero reading and a reference temperature equal to the
offset are refused; else the set-point is the truncated quotient of the full product. -/
def Obligations.SetpointIsTheTruncatedQuotient : Prop :=
  (∀ a b : Int, b ≠ 0 → tdiv a b = a.sign * b.sign * (a.natAbs / b.natAbs : Nat)) ∧
  (∀ a b : Int, a.natAbs < b.natAbs → tdiv a b = 0) ∧
  ∀ (cfg : Config) (raw : BitVec 16) (tref : Int), cfg.wf = true → fitsSigned cfg.tempW tref = true →
    (raw = 0 ∨ tref = cfg.averageOffset * 2 ^ cfg.tempFrac → computeSetPoint cfg raw tref = none) ∧
    (raw ≠ 0 → tref ≠ cfg.averageOffset * 2 ^ cfg.tempFrac →
      ∃ q r : Int, computeSetPoint cfg raw tref = some q ∧
        raw.toNat * (cfg.triggerTemp - cfg.averageOffset * 2 ^ cfg.tempFrac) =
          q * (tref - cfg.averageOffset * 2 ^ cfg.tempFrac) + r ∧
        r.natAbs < (tref - cfg.averageOffset * 2 ^ cfg.tempFrac).natAbs ∧
        (r = 0 ∨ r.sign = (raw.toNat * (cfg.triggerTemp - cfg.averageOffset * 2 ^ cfg.tempFrac)).sign))

/-- R135: numerator and divisor need `17 + F` bits, the product `33 + F`, and every quotient fits the `setpoint` register. -/
def Obligations.SetpointFitsItsRegister : Prop :=
  ∀ (cfg : Config) (raw : BitVec 16) (tref : Int), cfg.wf = true →
    (spNumerator cfg).natAbs < 2 ^ (16 + cfg.tempFrac) ∧ (spDivisor cfg tref).natAbs < 2 ^ (16 + cfg.tempFrac) ∧
    (raw.toNat * spNumerator cfg).natAbs < 2 ^ (32 + cfg.tempFrac) ∧
    ∀ q, computeSetPoint cfg raw tref = some q → fitsSigned cfg.spW q = true

/-- R137, which the spec marks as derived from R131: with every temperature an integer number of units, the answer does not
depend on `TEMP_FRAC`. -/
def Obligations.SetpointDoesNotDependOnTheFraction : Prop :=
  ∀ (cfg : Config) (f : Nat) (raw : BitVec 16) (tref : Int), cfg.wf = true → cfg.tempFrac = 0 → fitsSigned 16 tref = true →
    computeSetPoint
      { cfg with tempFrac := f, triggerTemp := cfg.triggerTemp * 2 ^ f, refTempDefault := cfg.refTempDefault * 2 ^ f }
      raw (tref * 2 ^ f) =
    computeSetPoint cfg raw tref

/-! ### Reset -/

/-- R29, R221: the registers after reset, and that every output is then 0. -/
def Obligations.ResetStateAndOutputs : Prop :=
  ∀ (cfg : Config) (ports : Inputs) (env : List Inputs),
    cleared (State.resetWith cfg ports env) = State.resetWith cfg ports env ∧
    (State.resetWith cfg ports env).state = 0 ∧ (State.resetWith cfg ports env).timer = 0 ∧
    (State.resetWith cfg ports env).exitPend = false ∧ (State.resetWith cfg ports env).devPower = false ∧
    (State.resetWith cfg ports env).progEn = false ∧ (State.resetWith cfg ports env).txLineActive = false ∧
    (State.resetWith cfg ports env).result = 0 ∧ (State.resetWith cfg ports env).logPend = false ∧
    outputs (State.resetWith cfg ports env) =
      { devPower := false, progEn := false, txLineActive := false, rxReady := false, txValid := false, txData := 0,
        indBusy := false, indError := false, indPass := false, logValid := false, logRxBuf := 0, logRxCnt := 0,
        logReading := 0, logReadingV := false, logRefLat := 0, logTxBuf := 0, logTxLen := 0, logSetpoint := 0, logSetpointV := false,
        logResult := 0, logReason := 0, logAckChar := 0, logAckV := false, stateO := 0 }

/-- R220, R222: an edge with `rst = 1` gives every register its reset value, whatever the state and the other inputs are, a change
of the configuration included, which is taken: for every state row, every phase row, the unused codes, every presented byte, and a
step of the machine. The inputs and the model's own fields stand (log entries 12, 15). -/
def Obligations.ResetEdge : Prop :=
  ∀ s : State, s.ports.rst = true →
    (∀ i, i ∈ stateRows.map Prod.fst ++ phaseRows.map Prod.fst ∨ (∃ c, i = .stUnused c) ∨ (∃ b f, i = .noise b f) ∨
        i ∈ characterRows.map Prod.fst →
      exec i s = .next (advance (rowReset s))) ∧
    (s.slot = none → step s = .next (advance (rowReset s)))

/-! ### The sequencer, one state at a time -/

/-- R159: `Idle`. Exit beats start; a start trigger enters `PowerUp` with everything cleared and the lines asserted. -/
def Obligations.IdleStep : Prop :=
  ∀ s : State, Ordinary s →
    exec .stIdle s = .next (advance (
      if (s.exitPend || s.ports.exitReq) = true then { s with exitPend := true, state := 10 }
      else if s.ports.startReq = true then
        { cleared s with
          result := 1, devPower := true, progEn := true, txLineActive := true, timer := s.cfg.settleTicks, state := 1 }
      else s))

/-- R160: `PowerUp`. -/
def Obligations.PowerUpStep : Prop :=
  ∀ s : State, Ordinary s →
    exec .stPowerup s = .next (advance (
      if timerAfter s = 0 then
        orExit { latched s with timer := 0 } (fun u =>
          { u with txLineActive := false, timer := u.cfg.rxDeadlineTicks, state := 2 })
      else { latched s with timer := timerAfter s }))

/-- R161: `AwaitInbound`: the transport fault first, then the byte, then the tick, then the end of the window. -/
def Obligations.AwaitInboundStep : Prop :=
  ∀ s : State, Ordinary s → s.rxCnt < 6 →
    exec .stAwaitinbound s = .next (advance (
      if s.ports.xportErr = true then orExit (latched s) (rowFail 6)
      else if s.ports.rxValid = true ∧ accept s.ports.rxData s.ports.rxFerr = true then
        windowStep { withCharacter s.ports.rxData (latched s) with timer := timerAfter s }
      else windowStep { latched s with timer := timerAfter s }))

/-- R162: `Validate`. -/
def Obligations.ValidateStep : Prop :=
  ∀ s : State, Ordinary s →
    exec .stValidate s = .next (advance (
      orExit (latched s) (fun u => if verifyChecksum s.rxBuf = true then { u with state := 4 } else rowFail 3 u)))

/-- R163: `Compute`: reading and reference temperature are recorded in every case, and the log record of an `InvalidReading` failure
shows them (R190; the port of `ref_lat` is log entry 29). -/
def Obligations.ComputeStep : Prop :=
  ∀ (s : State) (tref : Int), Ordinary s →
    tref = (if s.cfg.useSensor = true then sext s.cfg.tempW s.ports.refTemp else s.cfg.refTempDefault) →
    exec .stCompute s = .next (advance (
      match computeSetPoint s.cfg (decodeReading s.rxBuf) tref with
      | none =>
        orExit { latched s with reading := decodeReading s.rxBuf, readingV := true, refLat := tref } (rowFail 4)
      | some q =>
        orExit
          { latched s with
            reading := decodeReading s.rxBuf, readingV := true, refLat := tref, setpoint := q, setpointV := true }
          (fun u => { u with txPhase := 0, state := 5 }))) ∧
    ∀ t, exec .stCompute s = .next t → computeSetPoint s.cfg (decodeReading s.rxBuf) tref = none →
      (s.exitPend || s.ports.exitReq) = false →
      (outputs t).logValid = true ∧ (outputs t).logReason = 4 ∧ (outputs t).logReading = decodeReading s.rxBuf ∧
      (outputs t).logReadingV = true ∧ (outputs t).logRefLat = tref ∧ (outputs t).logSetpointV = s.setpointV

/-- R164: a step of `Transmit` is the step of its phase, and it completes. -/
def Obligations.TransmitStepIsItsPhase : Prop :=
  ∀ s : State, Ordinary s → ∀ p ∈ phaseRows, s.txPhase = p.2 →
    exec .stTransmit s = exec p.1 s ∧ ∃ t, exec .stTransmit s = .next t

/-- R164, phase `ENC`: the frame is built and loaded, or `Fail(ValueOutOfRange)`. -/
def Obligations.EncStep : Prop :=
  ∀ s : State, Ordinary s →
    exec .txphEnc s = .next (advance (
      match encodeFrame s.cfg s.setpoint with
      | none => orExit (latched s) (rowFail 5)
      | some f => withFrame f (latched s)))

/-- R164, phase `CHAR` (R140, R143). -/
def Obligations.CharStep : Prop :=
  ∀ s : State, Ordinary s →
    exec .txphChar s = .next (advance (
      if s.ports.xportErr = true then orExit (latched s) (rowFail 6)
      else if s.ports.txDone = true then { latched s with timer := s.cfg.txGapTicks, txPhase := 2 }
      else latched s))

/-- R164, phase `GAP` (R141, R143). -/
def Obligations.GapStep : Prop :=
  ∀ s : State, Ordinary s →
    exec .txphGap s = .next (advance (
      if s.ports.xportErr = true then orExit (latched s) (rowFail 6)
      else if timerAfter s = 0 then
        if s.txIdx + 1 = s.txLen then
          orExit { latched s with timer := 0 } (fun u =>
            { u with txLineActive := false, timer := u.cfg.ackDeadlineTicks, state := 6 })
        else { latched s with timer := 0, txIdx := s.txIdx + 1, txPhase := 1 }
      else { latched s with timer := timerAfter s }))

/-- R165: `AwaitAck`: the transport fault, then an accepted character, then the deadline. `ack_v` is 0 in every `AwaitAck` step of the
block (R99, and the invariant); with it set, which only rows run alone can leave, see `ReadFrameIsTheAckWindow`. -/
def Obligations.AwaitAckStep : Prop :=
  ∀ s : State, Ordinary s → s.ackV = false →
    exec .stAwaitack s = .next (advance (
      if s.ports.xportErr = true then orExit (latched s) (rowFail 6)
      else if s.ports.rxValid = true ∧ accept s.ports.rxData s.ports.rxFerr = true then
        orExit { latched s with ackChar := s.ports.rxData, ackV := true }
          (if s.ports.rxData = 0x59#8 then rowPass else rowFail 7)
      else if timerAfter s = 0 then orExit { latched s with timer := 0 } (rowFail 7)
      else { latched s with timer := timerAfter s }))

/-- R166, R167: `Pass` and `Fail`: the log strobe ends, and the hold ends in `PowerDown`. -/
def Obligations.HoldStep : Prop :=
  ∀ s : State, Ordinary s → ∀ i, i = .stPass ∨ i = .stFail →
    exec i s = .next (advance (
      if timerAfter s = 0 then rowPowerDown { latched s with logPend := false, timer := 0 }
      else { latched s with logPend := false, timer := timerAfter s }))

/-- R168, R169: `PowerDown` clears the attempt and goes to `Idle`, or to `Shutdown` after an exit request; `Shutdown` changes no
register, whatever the inputs. -/
def Obligations.PowerDownAndShutdownSteps : Prop :=
  ∀ s : State, Ordinary s →
    exec .stPowerdown s = .next (advance { cleared (latched s) with
      result := 0, state := if (s.exitPend || s.ports.exitReq) = true then 10 else 0 }) ∧
    exec .stShutdown s = .next (advance s)

/-- R70, R73, U17, U18, U21: where a step stops. The unused state codes and phase code 3 have no meaning; a configuration outside
R7 is refused, by every edge and by every operation that reads it; a change of it inside an attempt is refused; a seventh inbound
character has no element to go to. Log entries 14, 15, 17, 19. -/
def Obligations.StopsOutsideTheRules : Prop :=
  (∀ (c : BitVec 4) (s : State), Ordinary s → exec (.stUnused c) s = .refused .unusedStateCode) ∧
  (∀ s : State, Ordinary s → s.txPhase = 3 → exec .stTransmit s = .refused .unusedTxPhase) ∧
  (∀ s : State, s.ports.rst = false → s.ports.reconfig = none → s.cfg.wf = false →
    ∀ i ∈ stateRows.map Prod.fst ++ phaseRows.map Prod.fst, exec i s = .refused .configOutsideLimits) ∧
  (∀ s : State, s.cfg.wf = false →
    (∀ i ∈ ([.rsnIncomplete, .rsnBadsentinel, .rsnChecksummismatch, .rsnInvalidreading, .rsnValueoutofrange,
        .rsnTransporterror, .rsnUnverified, .decodeinbound] : List Instr), exec i s = .refused .configOutsideLimits) ∧
    (∀ sp, exec (.encodeoutbound sp) s = .refused .configOutsideLimits) ∧
    (∀ raw tref, exec (.computesetpoint raw tref) s = .refused .configOutsideLimits)) ∧
  (∀ (s : State) (c : Config), s.ports.rst = false → s.ports.reconfig = some c → s.state ≠ 0 → s.state ≠ 10 →
    { c with timerW := s.cfg.timerW } ≠ s.cfg →
    ∀ i ∈ stateRows.map Prod.fst ++ phaseRows.map Prod.fst, exec i s = .refused .configChangedInAttempt) ∧
  (∀ s : State, Ordinary s → s.ports.xportErr = false → s.ports.rxValid = true →
    accept s.ports.rxData s.ports.rxFerr = true → 6 ≤ s.rxCnt → exec .stAwaitinbound s = .fault .bufferIndex)

/-- R52: a configuration change made in `Idle` or `Shutdown` takes effect with no further action. `TIMER_W` is a width and does not
change (log entry 15). -/
def Obligations.ConfigurationChangeBetweenAttempts : Prop :=
  ∀ (s : State) (c : Config) (i : Instr), s.ports.reconfig = some c →
    (s.state = 0 ∧ i = .stIdle) ∨ (s.state = 10 ∧ i = .stShutdown) →
    exec i s = exec i { s with cfg := { c with timerW := s.cfg.timerW }, ports := { s.ports with reconfig := none } }

/-! ### Characters and frames -/

/-- R60, R91, R92: a character row in the inbound window stores its character and counts it; then the window may end (R161). A row is the
clock step on which its byte is presented (log entry 5). -/
def Obligations.CharacterRowsInTheInboundWindow : Prop :=
  ∀ s : State, Ordinary s → s.state = 2 → s.rxCnt < 6 → s.ports.xportErr = false → ∀ p ∈ characterRows,
    exec p.1 s = .next (advance (windowStep { withCharacter p.2 (latched s) with timer := timerAfter s }))

/-- R92, R165, R66: a character row in the acknowledgement window decides the attempt: `'Y'` passes, the other eighteen fail; the
acknowledgement frame is the row of its one character. Log entries 5, 6. -/
def Obligations.RowsInTheAckWindow : Prop :=
  ∀ s : State, Ordinary s → s.state = 6 → s.ackV = false → s.ports.xportErr = false →
    (∀ p ∈ characterRows, exec p.1 s = .next (advance (
      orExit { latched s with ackChar := p.2, ackV := true } (if p.1 = .chY then rowPass else rowFail 7)))) ∧
    exec .frameAck s = .next (advance (orExit { latched s with ackChar := 0x59, ackV := true } rowPass))

/-- R91, R100: outside the read windows a presented byte does nothing: the step is that of the state. Log entry 5. -/
def Obligations.CharactersOutsideTheWindows : Prop :=
  ∀ s : State, s.state ≠ 2 → s.state ≠ 6 →
    ∀ i, i ∈ characterRows.map Prod.fst ∨ (∃ b f, i = .noise b f) → exec i s = exec (decodeState s.state) s

/-- R62, R98: a noise byte does what no byte does, in every state, and the step completes. Log entry 5. -/
def Obligations.NoiseIsNoByte : Prop :=
  ∀ (s : State) (b : Byte) (ferr : Bool), accept b ferr = false →
    exec (.noise b ferr) s = exec (decodeState s.state) { s with ports := { s.ports with rxValid := false } } ∧
    (Ordinary s → s.state.toNat ≤ 10 → s.txPhase ≠ 3 → ∃ t, exec (.noise b ferr) s = .next t)

/-- R63, R43, R113 to R115: a whole inbound frame into an empty open window, no deadline, failure or exit in the way: the six
characters stand in the buffer, the reading is recorded, and the set-point is computed (or the failure raised). The row is
eight clock steps here (log entry 6). -/
def Obligations.InboundFrameRow : Prop :=
  ∀ (s : State) (d0 d1 d2 d3 k : Byte) (tref : Int),
    Instr.wf (.frameInbound d0 d1 d2 d3 k) = true → s.state = 2 → s.rxCnt = 0 → s.exitPend = false →
    UndisturbedFor 8 s → exitsOf ((listed s).take 8) = false → ticksOf ((listed s).take 5) < s.timer →
    tref = (if s.cfg.useSensor = true then sext s.cfg.tempW ((listed s).getD 7 Inputs.idle).refTemp
      else s.cfg.refTempDefault) →
    exec (.frameInbound d0 d1 d2 d3 k) s = .next (takeInputs 8 (
      match computeSetPoint s.cfg (BitVec.ofNat 16 (numberOf [d0, d1, d2, d3])) tref with
      | none =>
        rowFail 4 { s with
          rxBuf := s.rxBuf.writeList 0 [0x47, d0, d1, d2, d3, k], rxCnt := 6,
          reading := BitVec.ofNat 16 (numberOf [d0, d1, d2, d3]), readingV := true, refLat := tref }
      | some q =>
        { s with
          rxBuf := s.rxBuf.writeList 0 [0x47, d0, d1, d2, d3, k], rxCnt := 6,
          timer := s.timer - ticksOf ((listed s).take 6),
          reading := BitVec.ofNat 16 (numberOf [d0, d1, d2, d3]), readingV := true, refLat := tref,
          setpoint := q, setpointV := true, txPhase := 0, state := 5 }))

/-- R64, R65, R164: an outbound frame row loads its characters, in index order, and presents the first; element by element, and
nothing past them. The row is the `ENC` step with this
frame (log entry 7). -/
def Obligations.OutboundFrameRows : Prop :=
  ∀ (i : Instr) (f : List Byte) (s : State), outboundFrame i = some f → Ordinary s →
    exec i s = .next (advance (withFrame f (latched s))) ∧
    (s.txBuf.wf = true →
      (∀ (j : Nat) (h : j < f.length), (s.txBuf.writeList 0 f).read j = f[j]) ∧
      (∀ j, f.length ≤ j → (s.txBuf.writeList 0 f).read j = s.txBuf.read j))

/-- R41, R15: what the inbound window stores: the character at index `rx_cnt`, no other element of either buffer. -/
def Obligations.InboundWindowStoresOneElement : Prop :=
  ∀ s t : State, Ordinary s → s.rxBuf.wf = true → exec .stAwaitinbound s = .next t →
    (∀ j, j ≠ s.rxCnt → t.rxBuf.read j = s.rxBuf.read j) ∧ (∀ j, t.txBuf.read j = s.txBuf.read j) ∧
    (t.rxCnt = s.rxCnt + 1 → t.rxBuf.read s.rxCnt = s.ports.rxData ∧ accept s.ports.rxData s.ports.rxFerr = true) ∧
    (t.rxCnt ≠ s.rxCnt + 1 → t.rxCnt = s.rxCnt ∧ t.rxBuf.read s.rxCnt = s.rxBuf.read s.rxCnt)

/-! ### Operations -/

/-- R90, R110 to R112, R114, R115: the pure operations drive their own output and nothing else (R120; log entry 8). -/
def Obligations.PureOperations : Prop :=
  ∀ s : State,
    (∀ b ferr, exec (.accept b ferr) s =
      .next { s with wires := { s.wires with accept := !ferr && characterRows.any (fun p => p.2 == b) } }) ∧
    (∀ c, exec (.hexval c) s =
      .next { s with wires := { s.wires with hexvalValid := (Sys2Proof.Machine.hexval c).1, hexvalVal := (Sys2Proof.Machine.hexval c).2 } }) ∧
    (∀ v, exec (.hexchar v) s = .next { s with wires := { s.wires with hexchar := Sys2Proof.Machine.hexchar v } }) ∧
    (∀ v0 v1 v2 v3 : Nibble, exec (.checksum v0 v1 v2 v3) s =
      .next { s with wires := { s.wires with
        checksum := Sys2Proof.Machine.hexchar (v0 + v1 + v2 + v3) } }) ∧
    exec .verifychecksum s = .next { s with wires := { s.wires with
      verify := hexDigits [s.rxBuf.read 1, s.rxBuf.read 2, s.rxBuf.read 3, s.rxBuf.read 4] &&
        s.rxBuf.read 5 == Sys2Proof.Machine.hexchar (BitVec.ofNat 4
          (digitSum [s.rxBuf.read 1, s.rxBuf.read 2, s.rxBuf.read 3, s.rxBuf.read 4])) } } ∧
    (hexDigits [s.rxBuf.read 1, s.rxBuf.read 2, s.rxBuf.read 3, s.rxBuf.read 4] = true →
      exec .decodereading s = .next { s with wires := { s.wires with
        reading := BitVec.ofNat 16
          (numberOf [s.rxBuf.read 1, s.rxBuf.read 2, s.rxBuf.read 3, s.rxBuf.read 4]) } }) ∧
    (∃ v, exec .decodereading s = .next { s with wires := { s.wires with reading := v } })

/-- R116, R131: `ENCODEOUTBOUND` and `COMPUTESETPOINT` under a legal configuration: the answer on the wires (log entry 8), or the
failure, by the exit latch and the exit pin as they stand and with no clock edge (log entry 28). -/
def Obligations.EncodeAndComputeOperations : Prop :=
  ∀ s : State, s.cfg.wf = true →
    (∀ sp : Int, sp < 0 ∨ 65535 < sp → exec (.encodeoutbound sp) s = .next (orExit s (rowFail 5))) ∧
    (∀ sp : Int, 0 ≤ sp → sp ≤ 65535 →
      ∃ f, encodeFrame s.cfg sp = some f ∧
        exec (.encodeoutbound sp) s = .next { s with wires := { s.wires with frame := f } }) ∧
    (∀ (raw : BitVec 16) (tref : Int), exec (.computesetpoint raw tref) s =
      .next { s with wires := { s.wires with
        setpoint := if raw = 0 ∨ spDivisor s.cfg tref = 0 then none
          else some (Int.tdiv (raw.toNat * spNumerator s.cfg) (spDivisor s.cfg tref)) } })

/-- R92: `RXCHAR` in each window, and outside both. The presented byte is consumed (log entry 27). -/
def Obligations.RxcharOperation : Prop :=
  ∀ s : State,
    (s.state = 2 → s.rxCnt < 6 →
      exec .rxchar s = .next { (if s.ports.rxValid = true ∧ accept s.ports.rxData s.ports.rxFerr = true then
          withCharacter s.ports.rxData s else s) with ports := { s.ports with rxValid := false } }) ∧
    (s.state = 6 →
      exec .rxchar s = .next { (if s.ports.rxValid = true ∧ accept s.ports.rxData s.ports.rxFerr = true then
          { s with ackChar := s.ports.rxData, ackV := true } else s) with ports := { s.ports with rxValid := false } }) ∧
    (s.state ≠ 2 → s.state ≠ 6 → exec .rxchar s = .next s)

/-- R93, R94: in the inbound window `READFRAME` ends with the earliest step on which `L` characters are in or the `T`-th tick has
been seen, and its result is the accepted characters in order; a short result is no error. R93's `L` is 6. The last step's other
inputs stay at the ports, its byte consumed and its tick seen, and outside the read windows, and with the characters asked for there
already, nothing changes: the model's choices (log entry 9). -/
def Obligations.ReadFrameCollectsTheAcceptedCharacters : Prop :=
  (∀ (s : State) (L T n : Nat), s.state = 2 → s.rxCnt = 0 → 0 < L → L ≤ 6 → UndisturbedFor n s →
    WindowEndsAt L T n (listed s) →
    exec (.readframe L T) s = .next (readSpent (takeInputs (n - 1) { s with
      rxBuf := s.rxBuf.writeList 0 (acceptedOf ((listed s).take n)),
      rxCnt := (acceptedOf ((listed s).take n)).length,
      timer := T - ticksOf ((listed s).take n),
      exitPend := s.exitPend || exitsOf ((listed s).take n) }))) ∧
  (∀ (s : State) (L T : Nat), (s.state ≠ 2 ∧ s.state ≠ 6) ∨ (s.state = 2 ∧ L ≤ s.rxCnt) ∨ (s.state = 6 ∧ s.ackV = true) →
    exec (.readframe L T) s = .next s)

/-- R93, R165: in the acknowledgement window `READFRAME` ends at once with the first accepted character, else with the deadline.
R93's length there is 1; that another length makes no difference, and what stays at the ports, is the model's choice (log
entry 9). -/
def Obligations.ReadFrameOfOneCharacter : Prop :=
  ∀ (s : State) (L T n : Nat), s.state = 6 → s.ackV = false → UndisturbedFor n s → WindowEndsAt 1 T n (listed s) →
    exec (.readframe L T) s = .next (readSpent (takeInputs (n - 1) (
      match acceptedOf ((listed s).take n) with
      | [] => { s with
          timer := T - ticksOf ((listed s).take n), exitPend := s.exitPend || exitsOf ((listed s).take n) }
      | c :: _ => { s with
          ackChar := c, ackV := true,
          timer := T - ticksOf ((listed s).take (n - 1)), exitPend := s.exitPend || exitsOf ((listed s).take n) })))

/-- R96, R143: a transport failure on any step of a read or a write still in progress ends it with that step, after `n` steps
that disturbed nothing: in the inbound window, in the acknowledgement window, while a character waits for its `tx_done`, and in a
gap. What the steps before it stored stays, and the byte presented with it is not stored. Log entry 9. -/
def Obligations.TransportFaultEndsAnOperation : Prop :=
  ∀ (s : State) (n : Nat), FaultAfter n s →
    (∀ L T : Nat, s.state = 2 → s.rxCnt = 0 → 0 < L → L ≤ 6 →
      (∀ m, 0 < m → m ≤ n → ¬ WindowOver L T ((listed s).take m)) →
      exec (.readframe L T) s = .next (takeInputs (n + 1) (faultExit { s with
        rxBuf := s.rxBuf.writeList 0 (acceptedOf ((listed s).take n)),
        rxCnt := (acceptedOf ((listed s).take n)).length,
        timer := T - ticksOf ((listed s).take n),
        exitPend := s.exitPend || exitsOf ((listed s).take (n + 1)) }))) ∧
    (∀ L T : Nat, s.state = 6 → s.ackV = false → (∀ m, 0 < m → m ≤ n → ¬ WindowOver 1 T ((listed s).take m)) →
      exec (.readframe L T) s = .next (takeInputs (n + 1) (faultExit { s with
        timer := T - ticksOf ((listed s).take n),
        exitPend := s.exitPend || exitsOf ((listed s).take (n + 1)) }))) ∧
    (s.state = 5 → (∀ i ∈ (listed s).take n, i.txDone = false) →
      exec .txchar s = .next (takeInputs (n + 1) (faultExit { s with
        txPhase := 1, exitPend := s.exitPend || exitsOf ((listed s).take (n + 1)) }))) ∧
    (∀ (rs : List WriteRound) (waiting : List Inputs), s.state = 5 → rs.length < s.txLen →
      (∀ r ∈ rs, r.legal s.cfg.txGapTicks) → (∀ i ∈ waiting, i.txDone = false) →
      (listed s).take n = roundInputs rs ++ waiting →
      exec .writeframe s = .next (takeInputs (n + 1) (faultExit { s with
        txIdx := rs.length, txPhase := 1, timer := if rs.isEmpty then s.timer else 0,
        exitPend := s.exitPend || exitsOf ((listed s).take (n + 1)) }))) ∧
    (∀ (rs : List WriteRound) (waiting gap : List Inputs) (done : Inputs), s.state = 5 → rs.length < s.txLen →
      (∀ r ∈ rs, r.legal s.cfg.txGapTicks) → (∀ i ∈ waiting, i.txDone = false) → done.txDone = true →
      (∀ m, 0 < m → m ≤ gap.length → ticksOf (gap.take m) < s.cfg.txGapTicks) →
      (listed s).take n = roundInputs rs ++ (waiting ++ done :: gap) →
      exec .writeframe s = .next (takeInputs (n + 1) (faultExit { s with
        txIdx := rs.length, txPhase := 2, timer := s.cfg.txGapTicks - ticksOf gap,
        exitPend := s.exitPend || exitsOf ((listed s).take (n + 1)) })))

/-- R140, U20: `TXCHAR` holds the character until the transport answers, however long that takes, and then the gap begins;
unanswered it stays in phase `CHAR` to the end of the listed inputs, and outside `Transmit` nothing changes (log entry 9). -/
def Obligations.TxCharWaitsForTxDone : Prop :=
  ∀ s : State,
    (∀ n : Nat, s.state = 5 → UndisturbedFor (n + 1) s → (∀ i ∈ (listed s).take n, i.txDone = false) →
      ((listed s).getD n Inputs.idle).txDone = true →
      exec .txchar s = .next (takeInputs (n + 1) { s with
        timer := s.cfg.txGapTicks, txPhase := 2, exitPend := s.exitPend || exitsOf ((listed s).take (n + 1)) })) ∧
    (s.state = 5 → UndisturbedFor (listed s).length s → (∀ i ∈ listed s, i.txDone = false) →
      exec .txchar s = .next (takeInputs (listed s).length { s with
        txPhase := 1, exitPend := s.exitPend || exitsOf (listed s) })) ∧
    (s.state ≠ 5 → exec .txchar s = .next s)

/-- R141, R140: `WRITEFRAME` sends the `tx_len` characters of `tx_buf` in order, each until the transport answers, however late,
and each followed by its gap of `TX_GAP_TICKS` ticks, however many steps those take; between the `j`-th gap and the next answer the
character presented is `tx_buf[j]`. What stays at the ports, that the row stops where the listed inputs end, that an empty frame
is no write, and that outside `Transmit` nothing changes, are the model's choices (log entry 9). -/
def Obligations.WriteFrameSendsEveryCharacter : Prop :=
  ∀ s : State,
    (∀ (rs : List WriteRound) (later : List Inputs), s.state = 5 → 0 < s.txLen → rs.length = s.txLen →
      (∀ r ∈ rs, r.legal s.cfg.txGapTicks) → listed s = roundInputs rs ++ later →
      UndisturbedFor (roundInputs rs).length s →
      exec .writeframe s = .next (tickSpent (takeInputs ((roundInputs rs).length - 1) { s with
        txIdx := s.txLen - 1, txPhase := 2, timer := 0, exitPend := s.exitPend || exitsOf (roundInputs rs) }))) ∧
    (∀ (rs : List WriteRound) (waiting : List Inputs), s.state = 5 → rs.length < s.txLen →
      (∀ r ∈ rs, r.legal s.cfg.txGapTicks) → (∀ i ∈ waiting, i.txDone = false) →
      listed s = roundInputs rs ++ waiting → UndisturbedFor (listed s).length s →
      ∃ t, exec .writeframe s = .next t ∧
        t = takeInputs (listed s).length { s with
          txIdx := rs.length, txPhase := 1, timer := if rs.isEmpty then s.timer else 0,
          exitPend := s.exitPend || exitsOf (listed s) } ∧
        (outputs t).txValid = true ∧ (outputs t).txData = s.txBuf.read rs.length) ∧
    (s.txLen = 0 ∨ s.state ≠ 5 → exec .writeframe s = .next s)

/-! ### Failures, codes, lines -/

/-- R190 to R197, R202, R113: each reason row takes its failure: `result`, `reason`, the line idle, the log record pending, the
hold loaded, nothing saved; or `PowerDown` under an exit request (R157). `DECODEINBOUND` tests the length before the sentinel, and
goes on to `Validate`. That a reason row takes its failure is the model's choice (log entry 10), and that all of these take the exit
latch and the exit pin as they stand, write no latch and take no clock edge (log entry 28). Under a configuration outside R7 they are
refused (log entry 14; `StopsOutsideTheRules`). -/
def Obligations.RowsThatRaiseFailures : Prop :=
  ∀ s : State, s.cfg.wf = true →
    (∀ p ∈ ([(.rsnIncomplete, 1), (.rsnBadsentinel, 2), (.rsnChecksummismatch, 3), (.rsnInvalidreading, 4),
        (.rsnValueoutofrange, 5), (.rsnTransporterror, 6), (.rsnUnverified, 7)] : List (Instr × BitVec 3)),
      exec p.1 s = .next (orExit s (rowFail p.2))) ∧
    exec .decodeinbound s = .next (orExit s (fun u =>
      if s.rxCnt < 6 then rowFail 1 u else if s.rxBuf.read 0 ≠ 0x47#8 then rowFail 2 u else { u with state := 3 }))

/-- R71, R72, R144: the result rows, the row of no reason (log entry 10) and `SETTXLINE` (log entry 28) write their one register and
take no clock edge. -/
def Obligations.RegisterRows : Prop :=
  ∀ s : State,
    (∀ p ∈ ([(.resNone, 0), (.resPending, 1), (.resPassed, 2), (.resFailed, 3)] : List (Instr × BitVec 2)),
      exec p.1 s = .next { s with result := p.2 }) ∧
    exec .rsnNone s = .next { s with reason := 0 } ∧
    ∀ b, exec (.settxline b) s = .next { s with txLineActive := b }

/-! ### Steps -/

/-- A step runs the row its word decodes to; with no word placed, that is the row of the `state` register (R11, R70); and if the
transport presents a byte on the step, it is the row that byte decodes to (R91, R60, R62). Log entries 3, 5. -/
def Obligations.StepRunsTheDecodedRow : Prop :=
  ∀ s : State,
    (∀ i, decode (fetchWord s) = .ok i → step s = exec i (clearSlot s)) ∧
    (s.slot = none → decode (fetchWord s) = .ok (decodeState s.state) ∧ step s = exec (decodeState s.state) s) ∧
    (s.slot = none → s.ports.rxValid = true → step s = exec (decodeChar s.ports.rxData s.ports.rxFerr) s)

/-- R170, R171: the complete transition relation: every pair of states a step without reset can join. -/
def Obligations.TransitionTable : Prop :=
  ∀ s t : State, Invariant s → s.ports.rst = false → step s = .next t →
    (s.state.toNat, t.state.toNat) ∈
      ([(0, 10), (0, 1), (0, 0), (1, 2), (1, 9), (1, 1), (2, 8), (2, 9), (2, 3), (2, 2), (3, 4), (3, 9), (3, 8), (4, 8),
        (4, 9), (4, 5), (5, 8), (5, 9), (5, 5), (5, 6), (6, 8), (6, 9), (6, 7), (6, 6), (7, 9), (7, 7), (8, 9), (8, 8),
        (9, 10), (9, 0), (10, 10)] : List (Nat × Nat))

/-- R13, R156, R157, R169: the exit latch: set by a request on any step outside `Shutdown`, kept until reset; and with a request
latched or made, no step enters a state but `PowerDown` and `Shutdown`. Log entry 26. -/
def Obligations.ExitRequestIsLatchedAndReplacesTargets : Prop :=
  ∀ s t : State, s.slot = none → s.ports.rst = false → step s = .next t →
    t.exitPend = (if s.state = 10 then s.exitPend else s.exitPend || s.ports.exitReq) ∧
    ((s.exitPend || s.ports.exitReq) = true → t.state = s.state ∨ t.state = 9 ∨ t.state = 10)

/-- R91, R100, R196, R200, R229, R234 (D32): an input no rule of the state names changes nothing. -/
def Obligations.InputsOutsideTheirStatesAreIgnored : Prop :=
  ∀ s : State, s.slot = none →
    (∀ v, s.state ≠ 0 → step { s with ports := { s.ports with startReq := v } } = step s) ∧
    (∀ v, s.state ≠ 5 ∨ s.txPhase ≠ 1 → step { s with ports := { s.ports with txDone := v } } = step s) ∧
    (∀ v, s.state ≠ 2 → s.state ≠ 6 → (s.state ≠ 5 ∨ s.txPhase = 0) →
      step { s with ports := { s.ports with xportErr := v } } = step s) ∧
    (∀ v, s.state = 0 ∨ s.state = 3 ∨ s.state = 4 ∨ s.state = 9 ∨ s.state = 10 →
      step { s with ports := { s.ports with tick := v } } = step s) ∧
    (∀ v, s.state = 5 → s.txPhase = 0 ∨ s.txPhase = 1 → step { s with ports := { s.ports with tick := v } } = step s) ∧
    (∀ v w x, s.state ≠ 2 → s.state ≠ 6 →
      step { s with ports := { s.ports with rxValid := v, rxData := w, rxFerr := x } } = step s) ∧
    (∀ v, s.state ≠ 4 ∨ s.cfg.useSensor = false ∧ s.ports.reconfig = none →
      step { s with ports := { s.ports with refTemp := v } } = step s) ∧
    (∀ v, s.state = 10 → step { s with ports := { s.ports with exitReq := v } } = step s)

/-! ### Invariants and outputs -/

/-- The invariant of R30, R15, R19, R20, R25, R53, R76, R135, R174 is kept by every step, reset steps included. -/
def Obligations.InvariantKeptByEveryStep : Prop := ∀ s t : State, Invariant s → step s = .next t → Invariant t

/-- The invariant holds after reset, whatever configuration and inputs the block is given. -/
def Obligations.InvariantAfterReset : Prop :=
  Invariant State.reset ∧ ∀ (cfg : Config) (ports : Inputs) (env : List Inputs), Invariant (State.resetWith cfg ports env)

/-- Under the invariant an ordinary step always answers a next state: no fault, no refusal (R40, R70). -/
def Obligations.OrdinaryStepsComplete : Prop := ∀ s : State, Invariant s → Ordinary s → ∃ t, step s = .next t

/-- Every row keeps the canonical form of both frame buffers. -/
def Obligations.BuffersStayCanonical : Prop :=
  ∀ (i : Instr) (s t : State), s.rxBuf.wf = true → s.txBuf.wf = true → exec i s = .next t →
    t.rxBuf.wf = true ∧ t.txBuf.wf = true

/-- R50, R209, R174, R24, R164: receive and transmit never together, one indicator in every mid-cycle state, the strobe only in
`Pass` and `Fail`, and a character presented only of a verified frame whose set-point is in range: element `tx_idx` of the frame that
encodes that set-point. -/
def Obligations.OutputsUnderTheInvariant : Prop :=
  ∀ s : State, Invariant s →
    ¬ ((outputs s).rxReady = true ∧ (outputs s).txValid = true) ∧
    ((outputs s).indBusy.toNat + (outputs s).indError.toNat + (outputs s).indPass.toNat =
      if 1 ≤ s.state.toNat ∧ s.state.toNat ≤ 8 then 1 else 0) ∧
    ((outputs s).logValid = true → (outputs s).indPass = true ∨ (outputs s).indError = true) ∧
    ((outputs s).txValid = true →
      s.rxCnt = 6 ∧ s.rxBuf.read 0 = 0x47#8 ∧ verifyChecksum s.rxBuf = true ∧ s.reading = decodeReading s.rxBuf ∧
      computeSetPoint s.cfg s.reading s.refLat = some s.setpoint ∧ 0 ≤ s.setpoint ∧ s.setpoint ≤ 65535 ∧
      s.txIdx < s.txLen ∧ (outputs s).txData = s.txBuf.read s.txIdx ∧ accept (outputs s).txData false = true ∧
      ∃ f, encodeFrame s.cfg s.setpoint = some f ∧ f.length = s.txLen ∧ f[s.txIdx]? = some (outputs s).txData)

/-! ### Runs of steps -/

/-- R175, R160, R225: the settle wait lasts until its ticks have been seen and ends with the tick that makes them complete. -/
def Obligations.SettleWaitLastsItsTicks : Prop :=
  ∀ (s : State) (n : Nat), s.slot = none → s.state = 1 → OrdinaryFor (n + 1) s → ticksOf ((listed s).take n) < s.timer →
    runSteps n s = .next (takeInputs n { s with
      timer := s.timer - ticksOf ((listed s).take n), exitPend := s.exitPend || exitsOf ((listed s).take n) }) ∧
    ∃ t, runSteps (n + 1) s = .next t ∧
      (t.state = 1 ↔ ticksOf ((listed s).take (n + 1)) < s.timer) ∧
      (t.state ≠ 1 → t.state = if (s.exitPend || exitsOf ((listed s).take (n + 1))) = true then 9 else 2)

/-- R232: a read window is left no later than the step on which the tick that ends its deadline is seen, whatever arrives. -/
def Obligations.ReadWindowsEndByTheirDeadline : Prop :=
  ∀ (s : State) (n : Nat), Invariant s → s.state = 2 ∨ s.state = 6 → 0 < n → OrdinaryFor n s →
    s.timer ≤ ticksOf ((listed s).take n) →
    ∃ m t, 0 < m ∧ m ≤ n ∧ runSteps m s = .next t ∧ t.state ≠ s.state

/-- R155, R198, R203, R213: from `Pass` and from `Fail` the block goes through `PowerDown` to `Idle` (or `Shutdown`), with the device
unpowered and nothing of the attempt left. -/
def Obligations.EveryOutcomePowersDown : Prop :=
  ∀ (s : State) (n : Nat), Invariant s → s.state = 7 ∨ s.state = 8 → 0 < n → OrdinaryFor (n + 1) s →
    s.timer ≤ ticksOf ((listed s).take n) →
    ∃ m t u, 0 < m ∧ m ≤ n ∧ runSteps m s = .next t ∧ t.state = 9 ∧ t.devPower = false ∧ t.progEn = false ∧
      runSteps (m + 1) s = .next u ∧
      u.state = (if (s.exitPend || exitsOf ((listed s).take (m + 1))) = true then 10 else 0) ∧
      u.devPower = false ∧ u.progEn = false ∧ u.txLineActive = false ∧ u.result = 0 ∧ cleared u = u

/-! ### Below the byte boundary -/

/-- R69, R97, R145: a character on the line occupies `1 + 8 + STOP_BITS` bit times, start bit low, bit `i` at time `i + 1`, stop bits
high; it is read back as the byte; with its first stop bit low it is flagged; an idle line presents nothing. The active transmit pin
carries those levels, is high between characters and after them, and the inactive one is not driven. The format is what the spec
marks as general knowledge (log entry 22). -/
def Obligations.SerialCharacterRoundTrip : Prop :=
  (∀ (sb : Nat) (b : Byte), sb = 1 ∨ sb = 2 →
    (serialise sb b).length = characterBitTimes sb ∧ characterBitTimes sb = 9 + sb ∧ (serialise sb b)[0]? = some false ∧
    (∀ i, i < 8 → (serialise sb b)[i + 1]? = some (b.getLsbD i)) ∧
    (∀ i, i < sb → (serialise sb b)[i + 9]? = some true) ∧
    deserialise (serialise sb b) = some (b, false) ∧ deserialise ((serialise sb b).set 9 false) = some (b, true)) ∧
  (∀ n : Nat, deserialise (List.replicate n true) = none) ∧
  ∀ s : State,
    (s.txLineActive = false → ∀ x, txPin s x = none) ∧
    (s.txLineActive = true → txPin s none = some true ∧
      ∀ (b : Byte) (n : Nat), txPin s (some (b, n)) =
        some (if n = 0 then false else if n ≤ 8 then b.getLsbD (n - 1) else true))

/-! ### The abstract read and the steps -/

/-- R93, R161, R48: the abstract read and the step-level rules agree: `READFRAME` for six characters within the ticks the timer
holds, and then the rest of the last step, is the run of the block's own steps to the end of the window. No byte is taken twice
(log entry 9). -/
def Obligations.ReadFrameIsTheInboundWindow : Prop :=
  ∀ (s : State) (n : Nat), s.slot = none → s.state = 2 → s.rxCnt = 0 → UndisturbedFor n s →
    WindowEndsAt 6 s.timer n (listed s) →
    andThen (exec (.readframe 6 s.timer) s) (exec .stAwaitinbound) = runSteps n s

/-- R93, R165, R48: the same of the acknowledgement window: `READFRAME` for one character within the ticks the timer holds, and then
the rest of the last step, is the run of the block's own steps to the end of the window: the character decides there, and no byte is
taken twice. A window that has its character is decided by it, whatever byte is presented; that is the model's choice (log entry 9),
for states the block's own steps do not reach (R99). -/
def Obligations.ReadFrameIsTheAckWindow : Prop :=
  (∀ (s : State) (n : Nat), s.slot = none → s.state = 6 → s.ackV = false → UndisturbedFor n s →
    WindowEndsAt 1 s.timer n (listed s) →
    andThen (exec (.readframe 1 s.timer) s) (exec .stAwaitack) = runSteps n s) ∧
  ∀ s : State, Ordinary s → s.ackV = true →
    exec .stAwaitack s = .next (advance (orExit (latched s)
      (if s.ports.xportErr = true then rowFail 6 else if s.ackChar = 0x59#8 then rowPass else rowFail 7)))

end Statements
end

