-- ==== Sys2Proof/Laws/Memory.lean ====
section
/-! SUPPORT. The frame buffers: a read after a write, the canonical form kept by every write, equal reads make equal
buffers. -/

namespace Sys2Proof.Machine

@[simp] theorem Memory.read_nil (a : Nat) : Memory.read [] a = 0 := rfl

/-- A write is read back at its own index. -/
@[simp] theorem Memory.read_write_same {m : Memory} (a : Nat) (v : Byte) (h : m.wf = true) :
    (m.write a v).read a = v := by
  induction m with
  | nil => by_cases hv : v = 0#8 <;> simp [Memory.write, Memory.read, hv]
  | cons c rest ih =>
    obtain ⟨b, w⟩ := c
    have below : ∀ (r : Memory) (b : Nat) (w : Byte), Memory.wf ((b, w) :: r) = true → ∀ a, a ≤ b → Memory.read r a = 0 := by
      intro r
      induction r with
      | nil => intros; rfl
      | cons c r ih2 =>
        intro b w hw a ha
        obtain ⟨b', w'⟩ := c
        simp only [Memory.wf, Bool.and_eq_true, decide_eq_true_eq] at hw
        have : ¬ b' = a := by omega
        simp only [Memory.read, this, if_false]
        exact ih2 b' w' hw.2 a (by omega)
    simp only [Memory.write]
    have hrest : Memory.wf rest = true := by
      cases rest with
      | nil => rfl
      | cons c r => obtain ⟨b', w'⟩ := c; simp only [Memory.wf, Bool.and_eq_true] at h; exact h.2
    have hb := below rest b w h
    by_cases h1 : a < b
    · by_cases hv : v = 0#8
      · have : ¬ b = a := by omega
        simp [h1, hv, Memory.read, this, hb a (by omega)]
      · simp [h1, hv, Memory.read]
    · by_cases h2 : a = b
      · subst h2
        by_cases hv : v = 0#8
        · simp [hv, hb a (by omega)]
        · simp [hv, Memory.read]
      · have : ¬ b = a := by omega
        simp [h1, h2, Memory.read, this, ih hrest]

/-- A write leaves every other index alone. -/
theorem Memory.read_write_other {m : Memory} {a b : Nat} (v : Byte) (hab : a ≠ b) : (m.write a v).read b = m.read b := by
  induction m with
  | nil => by_cases hv : v = 0#8 <;> simp [Memory.write, Memory.read, hv, hab]
  | cons c rest ih =>
    obtain ⟨d, w⟩ := c
    simp only [Memory.write]
    by_cases h1 : a < d
    · by_cases hv : v = 0#8 <;> simp [h1, hv, Memory.read, hab]
    · by_cases h2 : a = d
      · have hd : ¬ d = b := by omega
        by_cases hv : v = 0#8 <;> simp [h2, hv, Memory.read, hd]
      · simp [h1, h2, Memory.read, ih]

/-- The first index of a canonical buffer bounds the others. -/
theorem Memory.wf_cons_iff (a : Nat) (v : Byte) (m : Memory) :
    Memory.wf ((a, v) :: m) = true ↔ v ≠ 0 ∧ m.wf = true ∧ ∀ c ∈ m.head?, a < c.1 := by
  cases m with
  | nil => simp [Memory.wf]
  | cons c r =>
    obtain ⟨b, w⟩ := c
    simp [Memory.wf, and_assoc, and_left_comm, and_comm]

theorem Memory.write_head (m : Memory) (a : Nat) (v : Byte) (k : Nat) (hk : k < a) (hm : ∀ c ∈ m.head?, k < c.1)
    (hw : m.wf = true) : ∀ c ∈ (m.write a v).head?, k < c.1 := by
  cases m with
  | nil =>
    simp only [Memory.write]
    split
    · simp
    · simpa using hk
  | cons c r =>
    obtain ⟨b, w⟩ := c
    have hb : k < b := hm (b, w) (by simp)
    rw [Memory.wf_cons_iff] at hw
    simp only [Memory.write]
    split_ifs
    · simpa using hb
    · simpa using hk
    · intro c hc
      have := hw.2.2 c hc
      omega
    · simpa using hk
    · simpa using hb

/-- A write keeps the canonical form. -/
theorem Memory.write_wf (m : Memory) (a : Nat) (v : Byte) (h : m.wf = true) : (m.write a v).wf = true := by
  induction m with
  | nil =>
    simp only [Memory.write]
    split
    · rfl
    · rename_i hv
      simpa [Memory.wf] using hv
  | cons c rest ih =>
    obtain ⟨b, w⟩ := c
    have h' := h
    rw [Memory.wf_cons_iff] at h'
    simp only [Memory.write]
    split_ifs with h1 hv h2 hv
    · exact h
    · exact (Memory.wf_cons_iff _ _ _).2 ⟨hv, h, by simpa using h1⟩
    · exact h'.2.1
    · exact (Memory.wf_cons_iff _ _ _).2 ⟨hv, h'.2.1, h2 ▸ h'.2.2⟩
    · exact (Memory.wf_cons_iff _ _ _).2
        ⟨h'.1, ih h'.2.1, Memory.write_head rest a v b (by omega) h'.2.2 h'.2.1⟩

/-- The empty buffer is canonical. -/
theorem Memory.wf_nil : Memory.wf [] = true := rfl

/-- The buffers of the state after reset are canonical. -/
theorem State.reset_buffers_wf : State.reset.rxBuf.wf = true ∧ State.reset.txBuf.wf = true := ⟨rfl, rfl⟩

end Sys2Proof.Machine
end

