-- ==== Sys2Proof/Laws/State.lean ====
section
/-! SUPPORT. What each register update leaves in each field of `State`: one lemma per field per update. -/

namespace Sys2Proof.Machine

/-! ### `advance` -/

@[simp] theorem advance_state (s : State) : (advance s).state = s.state := rfl
@[simp] theorem advance_timer (s : State) : (advance s).timer = s.timer := rfl
@[simp] theorem advance_exitPend (s : State) : (advance s).exitPend = s.exitPend := rfl
@[simp] theorem advance_devPower (s : State) : (advance s).devPower = s.devPower := rfl
@[simp] theorem advance_progEn (s : State) : (advance s).progEn = s.progEn := rfl
@[simp] theorem advance_txLineActive (s : State) : (advance s).txLineActive = s.txLineActive := rfl
@[simp] theorem advance_rxBuf (s : State) : (advance s).rxBuf = s.rxBuf := rfl
@[simp] theorem advance_rxCnt (s : State) : (advance s).rxCnt = s.rxCnt := rfl
@[simp] theorem advance_ackChar (s : State) : (advance s).ackChar = s.ackChar := rfl
@[simp] theorem advance_ackV (s : State) : (advance s).ackV = s.ackV := rfl
@[simp] theorem advance_reading (s : State) : (advance s).reading = s.reading := rfl
@[simp] theorem advance_readingV (s : State) : (advance s).readingV = s.readingV := rfl
@[simp] theorem advance_refLat (s : State) : (advance s).refLat = s.refLat := rfl
@[simp] theorem advance_setpoint (s : State) : (advance s).setpoint = s.setpoint := rfl
@[simp] theorem advance_setpointV (s : State) : (advance s).setpointV = s.setpointV := rfl
@[simp] theorem advance_txBuf (s : State) : (advance s).txBuf = s.txBuf := rfl
@[simp] theorem advance_txLen (s : State) : (advance s).txLen = s.txLen := rfl
@[simp] theorem advance_txIdx (s : State) : (advance s).txIdx = s.txIdx := rfl
@[simp] theorem advance_txPhase (s : State) : (advance s).txPhase = s.txPhase := rfl
@[simp] theorem advance_result (s : State) : (advance s).result = s.result := rfl
@[simp] theorem advance_reason (s : State) : (advance s).reason = s.reason := rfl
@[simp] theorem advance_logPend (s : State) : (advance s).logPend = s.logPend := rfl
@[simp] theorem advance_cfg (s : State) : (advance s).cfg = s.cfg := rfl
@[simp] theorem advance_ports (s : State) : (advance s).ports = s.env.headD (Config.openInput s.clk) := rfl
@[simp] theorem advance_env (s : State) : (advance s).env = s.env.tail := rfl
@[simp] theorem advance_clk (s : State) : (advance s).clk = s.clk + 1 := rfl
@[simp] theorem advance_wires (s : State) : (advance s).wires = s.wires := rfl
@[simp] theorem advance_slot (s : State) : (advance s).slot = s.slot := rfl

/-! ### `resetRegs` -/

@[simp] theorem resetRegs_state (s : State) : (resetRegs s).state = 0 := rfl
@[simp] theorem resetRegs_timer (s : State) : (resetRegs s).timer = 0 := rfl
@[simp] theorem resetRegs_exitPend (s : State) : (resetRegs s).exitPend = false := rfl
@[simp] theorem resetRegs_devPower (s : State) : (resetRegs s).devPower = false := rfl
@[simp] theorem resetRegs_progEn (s : State) : (resetRegs s).progEn = false := rfl
@[simp] theorem resetRegs_txLineActive (s : State) : (resetRegs s).txLineActive = false := rfl
@[simp] theorem resetRegs_rxBuf (s : State) : (resetRegs s).rxBuf = [] := rfl
@[simp] theorem resetRegs_rxCnt (s : State) : (resetRegs s).rxCnt = 0 := rfl
@[simp] theorem resetRegs_ackChar (s : State) : (resetRegs s).ackChar = 0 := rfl
@[simp] theorem resetRegs_ackV (s : State) : (resetRegs s).ackV = false := rfl
@[simp] theorem resetRegs_reading (s : State) : (resetRegs s).reading = 0 := rfl
@[simp] theorem resetRegs_readingV (s : State) : (resetRegs s).readingV = false := rfl
@[simp] theorem resetRegs_refLat (s : State) : (resetRegs s).refLat = 0 := rfl
@[simp] theorem resetRegs_setpoint (s : State) : (resetRegs s).setpoint = 0 := rfl
@[simp] theorem resetRegs_setpointV (s : State) : (resetRegs s).setpointV = false := rfl
@[simp] theorem resetRegs_txBuf (s : State) : (resetRegs s).txBuf = [] := rfl
@[simp] theorem resetRegs_txLen (s : State) : (resetRegs s).txLen = 0 := rfl
@[simp] theorem resetRegs_txIdx (s : State) : (resetRegs s).txIdx = 0 := rfl
@[simp] theorem resetRegs_txPhase (s : State) : (resetRegs s).txPhase = 0 := rfl
@[simp] theorem resetRegs_result (s : State) : (resetRegs s).result = 0 := rfl
@[simp] theorem resetRegs_reason (s : State) : (resetRegs s).reason = 0 := rfl
@[simp] theorem resetRegs_logPend (s : State) : (resetRegs s).logPend = false := rfl
@[simp] theorem resetRegs_cfg (s : State) : (resetRegs s).cfg = s.cfg := rfl
@[simp] theorem resetRegs_ports (s : State) : (resetRegs s).ports = s.ports := rfl
@[simp] theorem resetRegs_env (s : State) : (resetRegs s).env = s.env := rfl
@[simp] theorem resetRegs_clk (s : State) : (resetRegs s).clk = s.clk := rfl
@[simp] theorem resetRegs_wires (s : State) : (resetRegs s).wires = s.wires := rfl
@[simp] theorem resetRegs_slot (s : State) : (resetRegs s).slot = s.slot := rfl

/-! ### `prelude` -/

@[simp] theorem prelude_state (s : State) : (prelude s).state = s.state := rfl
@[simp] theorem prelude_timer (s : State) : (prelude s).timer = s.timer := rfl
@[simp] theorem prelude_exitPend (s : State) : (prelude s).exitPend = exitNow s := rfl
@[simp] theorem prelude_devPower (s : State) : (prelude s).devPower = s.devPower := rfl
@[simp] theorem prelude_progEn (s : State) : (prelude s).progEn = s.progEn := rfl
@[simp] theorem prelude_txLineActive (s : State) : (prelude s).txLineActive = s.txLineActive := rfl
@[simp] theorem prelude_rxBuf (s : State) : (prelude s).rxBuf = s.rxBuf := rfl
@[simp] theorem prelude_rxCnt (s : State) : (prelude s).rxCnt = s.rxCnt := rfl
@[simp] theorem prelude_ackChar (s : State) : (prelude s).ackChar = s.ackChar := rfl
@[simp] theorem prelude_ackV (s : State) : (prelude s).ackV = s.ackV := rfl
@[simp] theorem prelude_reading (s : State) : (prelude s).reading = s.reading := rfl
@[simp] theorem prelude_readingV (s : State) : (prelude s).readingV = s.readingV := rfl
@[simp] theorem prelude_refLat (s : State) : (prelude s).refLat = s.refLat := rfl
@[simp] theorem prelude_setpoint (s : State) : (prelude s).setpoint = s.setpoint := rfl
@[simp] theorem prelude_setpointV (s : State) : (prelude s).setpointV = s.setpointV := rfl
@[simp] theorem prelude_txBuf (s : State) : (prelude s).txBuf = s.txBuf := rfl
@[simp] theorem prelude_txLen (s : State) : (prelude s).txLen = s.txLen := rfl
@[simp] theorem prelude_txIdx (s : State) : (prelude s).txIdx = s.txIdx := rfl
@[simp] theorem prelude_txPhase (s : State) : (prelude s).txPhase = s.txPhase := rfl
@[simp] theorem prelude_result (s : State) : (prelude s).result = s.result := rfl
@[simp] theorem prelude_reason (s : State) : (prelude s).reason = s.reason := rfl
@[simp] theorem prelude_logPend (s : State) : (prelude s).logPend = s.logPend := rfl
@[simp] theorem prelude_cfg (s : State) : (prelude s).cfg = s.cfg := rfl
@[simp] theorem prelude_ports (s : State) : (prelude s).ports = s.ports := rfl
@[simp] theorem prelude_env (s : State) : (prelude s).env = s.env := rfl
@[simp] theorem prelude_clk (s : State) : (prelude s).clk = s.clk := rfl
@[simp] theorem prelude_wires (s : State) : (prelude s).wires = s.wires := rfl
@[simp] theorem prelude_slot (s : State) : (prelude s).slot = s.slot := rfl

/-! ### `dec` -/

@[simp] theorem dec_state (s : State) : (dec s).state = s.state := rfl
@[simp] theorem dec_timer (s : State) : (dec s).timer = if s.ports.tick = true ∧ 0 < s.timer then s.timer - 1 else s.timer := rfl
@[simp] theorem dec_exitPend (s : State) : (dec s).exitPend = s.exitPend := rfl
@[simp] theorem dec_devPower (s : State) : (dec s).devPower = s.devPower := rfl
@[simp] theorem dec_progEn (s : State) : (dec s).progEn = s.progEn := rfl
@[simp] theorem dec_txLineActive (s : State) : (dec s).txLineActive = s.txLineActive := rfl
@[simp] theorem dec_rxBuf (s : State) : (dec s).rxBuf = s.rxBuf := rfl
@[simp] theorem dec_rxCnt (s : State) : (dec s).rxCnt = s.rxCnt := rfl
@[simp] theorem dec_ackChar (s : State) : (dec s).ackChar = s.ackChar := rfl
@[simp] theorem dec_ackV (s : State) : (dec s).ackV = s.ackV := rfl
@[simp] theorem dec_reading (s : State) : (dec s).reading = s.reading := rfl
@[simp] theorem dec_readingV (s : State) : (dec s).readingV = s.readingV := rfl
@[simp] theorem dec_refLat (s : State) : (dec s).refLat = s.refLat := rfl
@[simp] theorem dec_setpoint (s : State) : (dec s).setpoint = s.setpoint := rfl
@[simp] theorem dec_setpointV (s : State) : (dec s).setpointV = s.setpointV := rfl
@[simp] theorem dec_txBuf (s : State) : (dec s).txBuf = s.txBuf := rfl
@[simp] theorem dec_txLen (s : State) : (dec s).txLen = s.txLen := rfl
@[simp] theorem dec_txIdx (s : State) : (dec s).txIdx = s.txIdx := rfl
@[simp] theorem dec_txPhase (s : State) : (dec s).txPhase = s.txPhase := rfl
@[simp] theorem dec_result (s : State) : (dec s).result = s.result := rfl
@[simp] theorem dec_reason (s : State) : (dec s).reason = s.reason := rfl
@[simp] theorem dec_logPend (s : State) : (dec s).logPend = s.logPend := rfl
@[simp] theorem dec_cfg (s : State) : (dec s).cfg = s.cfg := rfl
@[simp] theorem dec_ports (s : State) : (dec s).ports = s.ports := rfl
@[simp] theorem dec_env (s : State) : (dec s).env = s.env := rfl
@[simp] theorem dec_clk (s : State) : (dec s).clk = s.clk := rfl
@[simp] theorem dec_wires (s : State) : (dec s).wires = s.wires := rfl
@[simp] theorem dec_slot (s : State) : (dec s).slot = s.slot := rfl

/-! ### `setTxLine` -/

@[simp] theorem setTxLine_state (b : Bool) (s : State) : (setTxLine b s).state = s.state := rfl
@[simp] theorem setTxLine_timer (b : Bool) (s : State) : (setTxLine b s).timer = s.timer := rfl
@[simp] theorem setTxLine_exitPend (b : Bool) (s : State) : (setTxLine b s).exitPend = s.exitPend := rfl
@[simp] theorem setTxLine_devPower (b : Bool) (s : State) : (setTxLine b s).devPower = s.devPower := rfl
@[simp] theorem setTxLine_progEn (b : Bool) (s : State) : (setTxLine b s).progEn = s.progEn := rfl
@[simp] theorem setTxLine_txLineActive (b : Bool) (s : State) : (setTxLine b s).txLineActive = b := rfl
@[simp] theorem setTxLine_rxBuf (b : Bool) (s : State) : (setTxLine b s).rxBuf = s.rxBuf := rfl
@[simp] theorem setTxLine_rxCnt (b : Bool) (s : State) : (setTxLine b s).rxCnt = s.rxCnt := rfl
@[simp] theorem setTxLine_ackChar (b : Bool) (s : State) : (setTxLine b s).ackChar = s.ackChar := rfl
@[simp] theorem setTxLine_ackV (b : Bool) (s : State) : (setTxLine b s).ackV = s.ackV := rfl
@[simp] theorem setTxLine_reading (b : Bool) (s : State) : (setTxLine b s).reading = s.reading := rfl
@[simp] theorem setTxLine_readingV (b : Bool) (s : State) : (setTxLine b s).readingV = s.readingV := rfl
@[simp] theorem setTxLine_refLat (b : Bool) (s : State) : (setTxLine b s).refLat = s.refLat := rfl
@[simp] theorem setTxLine_setpoint (b : Bool) (s : State) : (setTxLine b s).setpoint = s.setpoint := rfl
@[simp] theorem setTxLine_setpointV (b : Bool) (s : State) : (setTxLine b s).setpointV = s.setpointV := rfl
@[simp] theorem setTxLine_txBuf (b : Bool) (s : State) : (setTxLine b s).txBuf = s.txBuf := rfl
@[simp] theorem setTxLine_txLen (b : Bool) (s : State) : (setTxLine b s).txLen = s.txLen := rfl
@[simp] theorem setTxLine_txIdx (b : Bool) (s : State) : (setTxLine b s).txIdx = s.txIdx := rfl
@[simp] theorem setTxLine_txPhase (b : Bool) (s : State) : (setTxLine b s).txPhase = s.txPhase := rfl
@[simp] theorem setTxLine_result (b : Bool) (s : State) : (setTxLine b s).result = s.result := rfl
@[simp] theorem setTxLine_reason (b : Bool) (s : State) : (setTxLine b s).reason = s.reason := rfl
@[simp] theorem setTxLine_logPend (b : Bool) (s : State) : (setTxLine b s).logPend = s.logPend := rfl
@[simp] theorem setTxLine_cfg (b : Bool) (s : State) : (setTxLine b s).cfg = s.cfg := rfl
@[simp] theorem setTxLine_ports (b : Bool) (s : State) : (setTxLine b s).ports = s.ports := rfl
@[simp] theorem setTxLine_env (b : Bool) (s : State) : (setTxLine b s).env = s.env := rfl
@[simp] theorem setTxLine_clk (b : Bool) (s : State) : (setTxLine b s).clk = s.clk := rfl
@[simp] theorem setTxLine_wires (b : Bool) (s : State) : (setTxLine b s).wires = s.wires := rfl
@[simp] theorem setTxLine_slot (b : Bool) (s : State) : (setTxLine b s).slot = s.slot := rfl

/-! ### `clearAttempt` -/

@[simp] theorem clearAttempt_state (s : State) : (clearAttempt s).state = s.state := rfl
@[simp] theorem clearAttempt_timer (s : State) : (clearAttempt s).timer = s.timer := rfl
@[simp] theorem clearAttempt_exitPend (s : State) : (clearAttempt s).exitPend = s.exitPend := rfl
@[simp] theorem clearAttempt_devPower (s : State) : (clearAttempt s).devPower = s.devPower := rfl
@[simp] theorem clearAttempt_progEn (s : State) : (clearAttempt s).progEn = s.progEn := rfl
@[simp] theorem clearAttempt_txLineActive (s : State) : (clearAttempt s).txLineActive = s.txLineActive := rfl
@[simp] theorem clearAttempt_rxBuf (s : State) : (clearAttempt s).rxBuf = [] := rfl
@[simp] theorem clearAttempt_rxCnt (s : State) : (clearAttempt s).rxCnt = 0 := rfl
@[simp] theorem clearAttempt_ackChar (s : State) : (clearAttempt s).ackChar = 0 := rfl
@[simp] theorem clearAttempt_ackV (s : State) : (clearAttempt s).ackV = false := rfl
@[simp] theorem clearAttempt_reading (s : State) : (clearAttempt s).reading = 0 := rfl
@[simp] theorem clearAttempt_readingV (s : State) : (clearAttempt s).readingV = false := rfl
@[simp] theorem clearAttempt_refLat (s : State) : (clearAttempt s).refLat = 0 := rfl
@[simp] theorem clearAttempt_setpoint (s : State) : (clearAttempt s).setpoint = 0 := rfl
@[simp] theorem clearAttempt_setpointV (s : State) : (clearAttempt s).setpointV = false := rfl
@[simp] theorem clearAttempt_txBuf (s : State) : (clearAttempt s).txBuf = [] := rfl
@[simp] theorem clearAttempt_txLen (s : State) : (clearAttempt s).txLen = 0 := rfl
@[simp] theorem clearAttempt_txIdx (s : State) : (clearAttempt s).txIdx = 0 := rfl
@[simp] theorem clearAttempt_txPhase (s : State) : (clearAttempt s).txPhase = TxPhase.enc.code := rfl
@[simp] theorem clearAttempt_result (s : State) : (clearAttempt s).result = s.result := rfl
@[simp] theorem clearAttempt_reason (s : State) : (clearAttempt s).reason = 0 := rfl
@[simp] theorem clearAttempt_logPend (s : State) : (clearAttempt s).logPend = s.logPend := rfl
@[simp] theorem clearAttempt_cfg (s : State) : (clearAttempt s).cfg = s.cfg := rfl
@[simp] theorem clearAttempt_ports (s : State) : (clearAttempt s).ports = s.ports := rfl
@[simp] theorem clearAttempt_env (s : State) : (clearAttempt s).env = s.env := rfl
@[simp] theorem clearAttempt_clk (s : State) : (clearAttempt s).clk = s.clk := rfl
@[simp] theorem clearAttempt_wires (s : State) : (clearAttempt s).wires = s.wires := rfl
@[simp] theorem clearAttempt_slot (s : State) : (clearAttempt s).slot = s.slot := rfl

/-! ### `enterPowerUp` -/

@[simp] theorem enterPowerUp_state (s : State) : (enterPowerUp s).state = SeqState.powerUp.code := rfl
@[simp] theorem enterPowerUp_timer (s : State) : (enterPowerUp s).timer = s.cfg.settleTicks := rfl
@[simp] theorem enterPowerUp_exitPend (s : State) : (enterPowerUp s).exitPend = s.exitPend := rfl
@[simp] theorem enterPowerUp_devPower (s : State) : (enterPowerUp s).devPower = true := rfl
@[simp] theorem enterPowerUp_progEn (s : State) : (enterPowerUp s).progEn = true := rfl
@[simp] theorem enterPowerUp_txLineActive (s : State) : (enterPowerUp s).txLineActive = true := rfl
@[simp] theorem enterPowerUp_rxBuf (s : State) : (enterPowerUp s).rxBuf = [] := rfl
@[simp] theorem enterPowerUp_rxCnt (s : State) : (enterPowerUp s).rxCnt = 0 := rfl
@[simp] theorem enterPowerUp_ackChar (s : State) : (enterPowerUp s).ackChar = 0 := rfl
@[simp] theorem enterPowerUp_ackV (s : State) : (enterPowerUp s).ackV = false := rfl
@[simp] theorem enterPowerUp_reading (s : State) : (enterPowerUp s).reading = 0 := rfl
@[simp] theorem enterPowerUp_readingV (s : State) : (enterPowerUp s).readingV = false := rfl
@[simp] theorem enterPowerUp_refLat (s : State) : (enterPowerUp s).refLat = 0 := rfl
@[simp] theorem enterPowerUp_setpoint (s : State) : (enterPowerUp s).setpoint = 0 := rfl
@[simp] theorem enterPowerUp_setpointV (s : State) : (enterPowerUp s).setpointV = false := rfl
@[simp] theorem enterPowerUp_txBuf (s : State) : (enterPowerUp s).txBuf = [] := rfl
@[simp] theorem enterPowerUp_txLen (s : State) : (enterPowerUp s).txLen = 0 := rfl
@[simp] theorem enterPowerUp_txIdx (s : State) : (enterPowerUp s).txIdx = 0 := rfl
@[simp] theorem enterPowerUp_txPhase (s : State) : (enterPowerUp s).txPhase = TxPhase.enc.code := rfl
@[simp] theorem enterPowerUp_result (s : State) : (enterPowerUp s).result = ResultTag.pending.code := rfl
@[simp] theorem enterPowerUp_reason (s : State) : (enterPowerUp s).reason = 0 := rfl
@[simp] theorem enterPowerUp_logPend (s : State) : (enterPowerUp s).logPend = s.logPend := rfl
@[simp] theorem enterPowerUp_cfg (s : State) : (enterPowerUp s).cfg = s.cfg := rfl
@[simp] theorem enterPowerUp_ports (s : State) : (enterPowerUp s).ports = s.ports := rfl
@[simp] theorem enterPowerUp_env (s : State) : (enterPowerUp s).env = s.env := rfl
@[simp] theorem enterPowerUp_clk (s : State) : (enterPowerUp s).clk = s.clk := rfl
@[simp] theorem enterPowerUp_wires (s : State) : (enterPowerUp s).wires = s.wires := rfl
@[simp] theorem enterPowerUp_slot (s : State) : (enterPowerUp s).slot = s.slot := rfl

/-! ### `enterAwaitInbound` -/

@[simp] theorem enterAwaitInbound_state (s : State) : (enterAwaitInbound s).state = SeqState.awaitInbound.code := rfl
@[simp] theorem enterAwaitInbound_timer (s : State) : (enterAwaitInbound s).timer = s.cfg.rxDeadlineTicks := rfl
@[simp] theorem enterAwaitInbound_exitPend (s : State) : (enterAwaitInbound s).exitPend = s.exitPend := rfl
@[simp] theorem enterAwaitInbound_devPower (s : State) : (enterAwaitInbound s).devPower = s.devPower := rfl
@[simp] theorem enterAwaitInbound_progEn (s : State) : (enterAwaitInbound s).progEn = s.progEn := rfl
@[simp] theorem enterAwaitInbound_txLineActive (s : State) : (enterAwaitInbound s).txLineActive = false := rfl
@[simp] theorem enterAwaitInbound_rxBuf (s : State) : (enterAwaitInbound s).rxBuf = s.rxBuf := rfl
@[simp] theorem enterAwaitInbound_rxCnt (s : State) : (enterAwaitInbound s).rxCnt = s.rxCnt := rfl
@[simp] theorem enterAwaitInbound_ackChar (s : State) : (enterAwaitInbound s).ackChar = s.ackChar := rfl
@[simp] theorem enterAwaitInbound_ackV (s : State) : (enterAwaitInbound s).ackV = s.ackV := rfl
@[simp] theorem enterAwaitInbound_reading (s : State) : (enterAwaitInbound s).reading = s.reading := rfl
@[simp] theorem enterAwaitInbound_readingV (s : State) : (enterAwaitInbound s).readingV = s.readingV := rfl
@[simp] theorem enterAwaitInbound_refLat (s : State) : (enterAwaitInbound s).refLat = s.refLat := rfl
@[simp] theorem enterAwaitInbound_setpoint (s : State) : (enterAwaitInbound s).setpoint = s.setpoint := rfl
@[simp] theorem enterAwaitInbound_setpointV (s : State) : (enterAwaitInbound s).setpointV = s.setpointV := rfl
@[simp] theorem enterAwaitInbound_txBuf (s : State) : (enterAwaitInbound s).txBuf = s.txBuf := rfl
@[simp] theorem enterAwaitInbound_txLen (s : State) : (enterAwaitInbound s).txLen = s.txLen := rfl
@[simp] theorem enterAwaitInbound_txIdx (s : State) : (enterAwaitInbound s).txIdx = s.txIdx := rfl
@[simp] theorem enterAwaitInbound_txPhase (s : State) : (enterAwaitInbound s).txPhase = s.txPhase := rfl
@[simp] theorem enterAwaitInbound_result (s : State) : (enterAwaitInbound s).result = s.result := rfl
@[simp] theorem enterAwaitInbound_reason (s : State) : (enterAwaitInbound s).reason = s.reason := rfl
@[simp] theorem enterAwaitInbound_logPend (s : State) : (enterAwaitInbound s).logPend = s.logPend := rfl
@[simp] theorem enterAwaitInbound_cfg (s : State) : (enterAwaitInbound s).cfg = s.cfg := rfl
@[simp] theorem enterAwaitInbound_ports (s : State) : (enterAwaitInbound s).ports = s.ports := rfl
@[simp] theorem enterAwaitInbound_env (s : State) : (enterAwaitInbound s).env = s.env := rfl
@[simp] theorem enterAwaitInbound_clk (s : State) : (enterAwaitInbound s).clk = s.clk := rfl
@[simp] theorem enterAwaitInbound_wires (s : State) : (enterAwaitInbound s).wires = s.wires := rfl
@[simp] theorem enterAwaitInbound_slot (s : State) : (enterAwaitInbound s).slot = s.slot := rfl

/-! ### `enterValidate` -/

@[simp] theorem enterValidate_state (s : State) : (enterValidate s).state = SeqState.validate.code := rfl
@[simp] theorem enterValidate_timer (s : State) : (enterValidate s).timer = s.timer := rfl
@[simp] theorem enterValidate_exitPend (s : State) : (enterValidate s).exitPend = s.exitPend := rfl
@[simp] theorem enterValidate_devPower (s : State) : (enterValidate s).devPower = s.devPower := rfl
@[simp] theorem enterValidate_progEn (s : State) : (enterValidate s).progEn = s.progEn := rfl
@[simp] theorem enterValidate_txLineActive (s : State) : (enterValidate s).txLineActive = s.txLineActive := rfl
@[simp] theorem enterValidate_rxBuf (s : State) : (enterValidate s).rxBuf = s.rxBuf := rfl
@[simp] theorem enterValidate_rxCnt (s : State) : (enterValidate s).rxCnt = s.rxCnt := rfl
@[simp] theorem enterValidate_ackChar (s : State) : (enterValidate s).ackChar = s.ackChar := rfl
@[simp] theorem enterValidate_ackV (s : State) : (enterValidate s).ackV = s.ackV := rfl
@[simp] theorem enterValidate_reading (s : State) : (enterValidate s).reading = s.reading := rfl
@[simp] theorem enterValidate_readingV (s : State) : (enterValidate s).readingV = s.readingV := rfl
@[simp] theorem enterValidate_refLat (s : State) : (enterValidate s).refLat = s.refLat := rfl
@[simp] theorem enterValidate_setpoint (s : State) : (enterValidate s).setpoint = s.setpoint := rfl
@[simp] theorem enterValidate_setpointV (s : State) : (enterValidate s).setpointV = s.setpointV := rfl
@[simp] theorem enterValidate_txBuf (s : State) : (enterValidate s).txBuf = s.txBuf := rfl
@[simp] theorem enterValidate_txLen (s : State) : (enterValidate s).txLen = s.txLen := rfl
@[simp] theorem enterValidate_txIdx (s : State) : (enterValidate s).txIdx = s.txIdx := rfl
@[simp] theorem enterValidate_txPhase (s : State) : (enterValidate s).txPhase = s.txPhase := rfl
@[simp] theorem enterValidate_result (s : State) : (enterValidate s).result = s.result := rfl
@[simp] theorem enterValidate_reason (s : State) : (enterValidate s).reason = s.reason := rfl
@[simp] theorem enterValidate_logPend (s : State) : (enterValidate s).logPend = s.logPend := rfl
@[simp] theorem enterValidate_cfg (s : State) : (enterValidate s).cfg = s.cfg := rfl
@[simp] theorem enterValidate_ports (s : State) : (enterValidate s).ports = s.ports := rfl
@[simp] theorem enterValidate_env (s : State) : (enterValidate s).env = s.env := rfl
@[simp] theorem enterValidate_clk (s : State) : (enterValidate s).clk = s.clk := rfl
@[simp] theorem enterValidate_wires (s : State) : (enterValidate s).wires = s.wires := rfl
@[simp] theorem enterValidate_slot (s : State) : (enterValidate s).slot = s.slot := rfl

/-! ### `enterCompute` -/

@[simp] theorem enterCompute_state (s : State) : (enterCompute s).state = SeqState.compute.code := rfl
@[simp] theorem enterCompute_timer (s : State) : (enterCompute s).timer = s.timer := rfl
@[simp] theorem enterCompute_exitPend (s : State) : (enterCompute s).exitPend = s.exitPend := rfl
@[simp] theorem enterCompute_devPower (s : State) : (enterCompute s).devPower = s.devPower := rfl
@[simp] theorem enterCompute_progEn (s : State) : (enterCompute s).progEn = s.progEn := rfl
@[simp] theorem enterCompute_txLineActive (s : State) : (enterCompute s).txLineActive = s.txLineActive := rfl
@[simp] theorem enterCompute_rxBuf (s : State) : (enterCompute s).rxBuf = s.rxBuf := rfl
@[simp] theorem enterCompute_rxCnt (s : State) : (enterCompute s).rxCnt = s.rxCnt := rfl
@[simp] theorem enterCompute_ackChar (s : State) : (enterCompute s).ackChar = s.ackChar := rfl
@[simp] theorem enterCompute_ackV (s : State) : (enterCompute s).ackV = s.ackV := rfl
@[simp] theorem enterCompute_reading (s : State) : (enterCompute s).reading = s.reading := rfl
@[simp] theorem enterCompute_readingV (s : State) : (enterCompute s).readingV = s.readingV := rfl
@[simp] theorem enterCompute_refLat (s : State) : (enterCompute s).refLat = s.refLat := rfl
@[simp] theorem enterCompute_setpoint (s : State) : (enterCompute s).setpoint = s.setpoint := rfl
@[simp] theorem enterCompute_setpointV (s : State) : (enterCompute s).setpointV = s.setpointV := rfl
@[simp] theorem enterCompute_txBuf (s : State) : (enterCompute s).txBuf = s.txBuf := rfl
@[simp] theorem enterCompute_txLen (s : State) : (enterCompute s).txLen = s.txLen := rfl
@[simp] theorem enterCompute_txIdx (s : State) : (enterCompute s).txIdx = s.txIdx := rfl
@[simp] theorem enterCompute_txPhase (s : State) : (enterCompute s).txPhase = s.txPhase := rfl
@[simp] theorem enterCompute_result (s : State) : (enterCompute s).result = s.result := rfl
@[simp] theorem enterCompute_reason (s : State) : (enterCompute s).reason = s.reason := rfl
@[simp] theorem enterCompute_logPend (s : State) : (enterCompute s).logPend = s.logPend := rfl
@[simp] theorem enterCompute_cfg (s : State) : (enterCompute s).cfg = s.cfg := rfl
@[simp] theorem enterCompute_ports (s : State) : (enterCompute s).ports = s.ports := rfl
@[simp] theorem enterCompute_env (s : State) : (enterCompute s).env = s.env := rfl
@[simp] theorem enterCompute_clk (s : State) : (enterCompute s).clk = s.clk := rfl
@[simp] theorem enterCompute_wires (s : State) : (enterCompute s).wires = s.wires := rfl
@[simp] theorem enterCompute_slot (s : State) : (enterCompute s).slot = s.slot := rfl

/-! ### `enterTransmit` -/

@[simp] theorem enterTransmit_state (s : State) : (enterTransmit s).state = SeqState.transmit.code := rfl
@[simp] theorem enterTransmit_timer (s : State) : (enterTransmit s).timer = s.timer := rfl
@[simp] theorem enterTransmit_exitPend (s : State) : (enterTransmit s).exitPend = s.exitPend := rfl
@[simp] theorem enterTransmit_devPower (s : State) : (enterTransmit s).devPower = s.devPower := rfl
@[simp] theorem enterTransmit_progEn (s : State) : (enterTransmit s).progEn = s.progEn := rfl
@[simp] theorem enterTransmit_txLineActive (s : State) : (enterTransmit s).txLineActive = s.txLineActive := rfl
@[simp] theorem enterTransmit_rxBuf (s : State) : (enterTransmit s).rxBuf = s.rxBuf := rfl
@[simp] theorem enterTransmit_rxCnt (s : State) : (enterTransmit s).rxCnt = s.rxCnt := rfl
@[simp] theorem enterTransmit_ackChar (s : State) : (enterTransmit s).ackChar = s.ackChar := rfl
@[simp] theorem enterTransmit_ackV (s : State) : (enterTransmit s).ackV = s.ackV := rfl
@[simp] theorem enterTransmit_reading (s : State) : (enterTransmit s).reading = s.reading := rfl
@[simp] theorem enterTransmit_readingV (s : State) : (enterTransmit s).readingV = s.readingV := rfl
@[simp] theorem enterTransmit_refLat (s : State) : (enterTransmit s).refLat = s.refLat := rfl
@[simp] theorem enterTransmit_setpoint (s : State) : (enterTransmit s).setpoint = s.setpoint := rfl
@[simp] theorem enterTransmit_setpointV (s : State) : (enterTransmit s).setpointV = s.setpointV := rfl
@[simp] theorem enterTransmit_txBuf (s : State) : (enterTransmit s).txBuf = s.txBuf := rfl
@[simp] theorem enterTransmit_txLen (s : State) : (enterTransmit s).txLen = s.txLen := rfl
@[simp] theorem enterTransmit_txIdx (s : State) : (enterTransmit s).txIdx = s.txIdx := rfl
@[simp] theorem enterTransmit_txPhase (s : State) : (enterTransmit s).txPhase = TxPhase.enc.code := rfl
@[simp] theorem enterTransmit_result (s : State) : (enterTransmit s).result = s.result := rfl
@[simp] theorem enterTransmit_reason (s : State) : (enterTransmit s).reason = s.reason := rfl
@[simp] theorem enterTransmit_logPend (s : State) : (enterTransmit s).logPend = s.logPend := rfl
@[simp] theorem enterTransmit_cfg (s : State) : (enterTransmit s).cfg = s.cfg := rfl
@[simp] theorem enterTransmit_ports (s : State) : (enterTransmit s).ports = s.ports := rfl
@[simp] theorem enterTransmit_env (s : State) : (enterTransmit s).env = s.env := rfl
@[simp] theorem enterTransmit_clk (s : State) : (enterTransmit s).clk = s.clk := rfl
@[simp] theorem enterTransmit_wires (s : State) : (enterTransmit s).wires = s.wires := rfl
@[simp] theorem enterTransmit_slot (s : State) : (enterTransmit s).slot = s.slot := rfl

/-! ### `enterAwaitAck` -/

@[simp] theorem enterAwaitAck_state (s : State) : (enterAwaitAck s).state = SeqState.awaitAck.code := rfl
@[simp] theorem enterAwaitAck_timer (s : State) : (enterAwaitAck s).timer = s.cfg.ackDeadlineTicks := rfl
@[simp] theorem enterAwaitAck_exitPend (s : State) : (enterAwaitAck s).exitPend = s.exitPend := rfl
@[simp] theorem enterAwaitAck_devPower (s : State) : (enterAwaitAck s).devPower = s.devPower := rfl
@[simp] theorem enterAwaitAck_progEn (s : State) : (enterAwaitAck s).progEn = s.progEn := rfl
@[simp] theorem enterAwaitAck_txLineActive (s : State) : (enterAwaitAck s).txLineActive = false := rfl
@[simp] theorem enterAwaitAck_rxBuf (s : State) : (enterAwaitAck s).rxBuf = s.rxBuf := rfl
@[simp] theorem enterAwaitAck_rxCnt (s : State) : (enterAwaitAck s).rxCnt = s.rxCnt := rfl
@[simp] theorem enterAwaitAck_ackChar (s : State) : (enterAwaitAck s).ackChar = s.ackChar := rfl
@[simp] theorem enterAwaitAck_ackV (s : State) : (enterAwaitAck s).ackV = s.ackV := rfl
@[simp] theorem enterAwaitAck_reading (s : State) : (enterAwaitAck s).reading = s.reading := rfl
@[simp] theorem enterAwaitAck_readingV (s : State) : (enterAwaitAck s).readingV = s.readingV := rfl
@[simp] theorem enterAwaitAck_refLat (s : State) : (enterAwaitAck s).refLat = s.refLat := rfl
@[simp] theorem enterAwaitAck_setpoint (s : State) : (enterAwaitAck s).setpoint = s.setpoint := rfl
@[simp] theorem enterAwaitAck_setpointV (s : State) : (enterAwaitAck s).setpointV = s.setpointV := rfl
@[simp] theorem enterAwaitAck_txBuf (s : State) : (enterAwaitAck s).txBuf = s.txBuf := rfl
@[simp] theorem enterAwaitAck_txLen (s : State) : (enterAwaitAck s).txLen = s.txLen := rfl
@[simp] theorem enterAwaitAck_txIdx (s : State) : (enterAwaitAck s).txIdx = s.txIdx := rfl
@[simp] theorem enterAwaitAck_txPhase (s : State) : (enterAwaitAck s).txPhase = s.txPhase := rfl
@[simp] theorem enterAwaitAck_result (s : State) : (enterAwaitAck s).result = s.result := rfl
@[simp] theorem enterAwaitAck_reason (s : State) : (enterAwaitAck s).reason = s.reason := rfl
@[simp] theorem enterAwaitAck_logPend (s : State) : (enterAwaitAck s).logPend = s.logPend := rfl
@[simp] theorem enterAwaitAck_cfg (s : State) : (enterAwaitAck s).cfg = s.cfg := rfl
@[simp] theorem enterAwaitAck_ports (s : State) : (enterAwaitAck s).ports = s.ports := rfl
@[simp] theorem enterAwaitAck_env (s : State) : (enterAwaitAck s).env = s.env := rfl
@[simp] theorem enterAwaitAck_clk (s : State) : (enterAwaitAck s).clk = s.clk := rfl
@[simp] theorem enterAwaitAck_wires (s : State) : (enterAwaitAck s).wires = s.wires := rfl
@[simp] theorem enterAwaitAck_slot (s : State) : (enterAwaitAck s).slot = s.slot := rfl

/-! ### `enterPass` -/

@[simp] theorem enterPass_state (s : State) : (enterPass s).state = SeqState.pass.code := rfl
@[simp] theorem enterPass_timer (s : State) : (enterPass s).timer = s.cfg.indHoldTicks := rfl
@[simp] theorem enterPass_exitPend (s : State) : (enterPass s).exitPend = s.exitPend := rfl
@[simp] theorem enterPass_devPower (s : State) : (enterPass s).devPower = s.devPower := rfl
@[simp] theorem enterPass_progEn (s : State) : (enterPass s).progEn = s.progEn := rfl
@[simp] theorem enterPass_txLineActive (s : State) : (enterPass s).txLineActive = false := rfl
@[simp] theorem enterPass_rxBuf (s : State) : (enterPass s).rxBuf = s.rxBuf := rfl
@[simp] theorem enterPass_rxCnt (s : State) : (enterPass s).rxCnt = s.rxCnt := rfl
@[simp] theorem enterPass_ackChar (s : State) : (enterPass s).ackChar = s.ackChar := rfl
@[simp] theorem enterPass_ackV (s : State) : (enterPass s).ackV = s.ackV := rfl
@[simp] theorem enterPass_reading (s : State) : (enterPass s).reading = s.reading := rfl
@[simp] theorem enterPass_readingV (s : State) : (enterPass s).readingV = s.readingV := rfl
@[simp] theorem enterPass_refLat (s : State) : (enterPass s).refLat = s.refLat := rfl
@[simp] theorem enterPass_setpoint (s : State) : (enterPass s).setpoint = s.setpoint := rfl
@[simp] theorem enterPass_setpointV (s : State) : (enterPass s).setpointV = s.setpointV := rfl
@[simp] theorem enterPass_txBuf (s : State) : (enterPass s).txBuf = s.txBuf := rfl
@[simp] theorem enterPass_txLen (s : State) : (enterPass s).txLen = s.txLen := rfl
@[simp] theorem enterPass_txIdx (s : State) : (enterPass s).txIdx = s.txIdx := rfl
@[simp] theorem enterPass_txPhase (s : State) : (enterPass s).txPhase = s.txPhase := rfl
@[simp] theorem enterPass_result (s : State) : (enterPass s).result = ResultTag.passed.code := rfl
@[simp] theorem enterPass_reason (s : State) : (enterPass s).reason = s.reason := rfl
@[simp] theorem enterPass_logPend (s : State) : (enterPass s).logPend = true := rfl
@[simp] theorem enterPass_cfg (s : State) : (enterPass s).cfg = s.cfg := rfl
@[simp] theorem enterPass_ports (s : State) : (enterPass s).ports = s.ports := rfl
@[simp] theorem enterPass_env (s : State) : (enterPass s).env = s.env := rfl
@[simp] theorem enterPass_clk (s : State) : (enterPass s).clk = s.clk := rfl
@[simp] theorem enterPass_wires (s : State) : (enterPass s).wires = s.wires := rfl
@[simp] theorem enterPass_slot (s : State) : (enterPass s).slot = s.slot := rfl

/-! ### `enterFail` -/

@[simp] theorem enterFail_state (r : Reason) (s : State) : (enterFail r s).state = SeqState.fail.code := rfl
@[simp] theorem enterFail_timer (r : Reason) (s : State) : (enterFail r s).timer = s.cfg.indHoldTicks := rfl
@[simp] theorem enterFail_exitPend (r : Reason) (s : State) : (enterFail r s).exitPend = s.exitPend := rfl
@[simp] theorem enterFail_devPower (r : Reason) (s : State) : (enterFail r s).devPower = s.devPower := rfl
@[simp] theorem enterFail_progEn (r : Reason) (s : State) : (enterFail r s).progEn = s.progEn := rfl
@[simp] theorem enterFail_txLineActive (r : Reason) (s : State) : (enterFail r s).txLineActive = false := rfl
@[simp] theorem enterFail_rxBuf (r : Reason) (s : State) : (enterFail r s).rxBuf = s.rxBuf := rfl
@[simp] theorem enterFail_rxCnt (r : Reason) (s : State) : (enterFail r s).rxCnt = s.rxCnt := rfl
@[simp] theorem enterFail_ackChar (r : Reason) (s : State) : (enterFail r s).ackChar = s.ackChar := rfl
@[simp] theorem enterFail_ackV (r : Reason) (s : State) : (enterFail r s).ackV = s.ackV := rfl
@[simp] theorem enterFail_reading (r : Reason) (s : State) : (enterFail r s).reading = s.reading := rfl
@[simp] theorem enterFail_readingV (r : Reason) (s : State) : (enterFail r s).readingV = s.readingV := rfl
@[simp] theorem enterFail_refLat (r : Reason) (s : State) : (enterFail r s).refLat = s.refLat := rfl
@[simp] theorem enterFail_setpoint (r : Reason) (s : State) : (enterFail r s).setpoint = s.setpoint := rfl
@[simp] theorem enterFail_setpointV (r : Reason) (s : State) : (enterFail r s).setpointV = s.setpointV := rfl
@[simp] theorem enterFail_txBuf (r : Reason) (s : State) : (enterFail r s).txBuf = s.txBuf := rfl
@[simp] theorem enterFail_txLen (r : Reason) (s : State) : (enterFail r s).txLen = s.txLen := rfl
@[simp] theorem enterFail_txIdx (r : Reason) (s : State) : (enterFail r s).txIdx = s.txIdx := rfl
@[simp] theorem enterFail_txPhase (r : Reason) (s : State) : (enterFail r s).txPhase = s.txPhase := rfl
@[simp] theorem enterFail_result (r : Reason) (s : State) : (enterFail r s).result = ResultTag.failed.code := rfl
@[simp] theorem enterFail_reason (r : Reason) (s : State) : (enterFail r s).reason = r.code := rfl
@[simp] theorem enterFail_logPend (r : Reason) (s : State) : (enterFail r s).logPend = true := rfl
@[simp] theorem enterFail_cfg (r : Reason) (s : State) : (enterFail r s).cfg = s.cfg := rfl
@[simp] theorem enterFail_ports (r : Reason) (s : State) : (enterFail r s).ports = s.ports := rfl
@[simp] theorem enterFail_env (r : Reason) (s : State) : (enterFail r s).env = s.env := rfl
@[simp] theorem enterFail_clk (r : Reason) (s : State) : (enterFail r s).clk = s.clk := rfl
@[simp] theorem enterFail_wires (r : Reason) (s : State) : (enterFail r s).wires = s.wires := rfl
@[simp] theorem enterFail_slot (r : Reason) (s : State) : (enterFail r s).slot = s.slot := rfl

/-! ### `enterPowerDown` -/

@[simp] theorem enterPowerDown_state (s : State) : (enterPowerDown s).state = SeqState.powerDown.code := rfl
@[simp] theorem enterPowerDown_timer (s : State) : (enterPowerDown s).timer = s.timer := rfl
@[simp] theorem enterPowerDown_exitPend (s : State) : (enterPowerDown s).exitPend = s.exitPend := rfl
@[simp] theorem enterPowerDown_devPower (s : State) : (enterPowerDown s).devPower = false := rfl
@[simp] theorem enterPowerDown_progEn (s : State) : (enterPowerDown s).progEn = false := rfl
@[simp] theorem enterPowerDown_txLineActive (s : State) : (enterPowerDown s).txLineActive = false := rfl
@[simp] theorem enterPowerDown_rxBuf (s : State) : (enterPowerDown s).rxBuf = s.rxBuf := rfl
@[simp] theorem enterPowerDown_rxCnt (s : State) : (enterPowerDown s).rxCnt = s.rxCnt := rfl
@[simp] theorem enterPowerDown_ackChar (s : State) : (enterPowerDown s).ackChar = s.ackChar := rfl
@[simp] theorem enterPowerDown_ackV (s : State) : (enterPowerDown s).ackV = s.ackV := rfl
@[simp] theorem enterPowerDown_reading (s : State) : (enterPowerDown s).reading = s.reading := rfl
@[simp] theorem enterPowerDown_readingV (s : State) : (enterPowerDown s).readingV = s.readingV := rfl
@[simp] theorem enterPowerDown_refLat (s : State) : (enterPowerDown s).refLat = s.refLat := rfl
@[simp] theorem enterPowerDown_setpoint (s : State) : (enterPowerDown s).setpoint = s.setpoint := rfl
@[simp] theorem enterPowerDown_setpointV (s : State) : (enterPowerDown s).setpointV = s.setpointV := rfl
@[simp] theorem enterPowerDown_txBuf (s : State) : (enterPowerDown s).txBuf = s.txBuf := rfl
@[simp] theorem enterPowerDown_txLen (s : State) : (enterPowerDown s).txLen = s.txLen := rfl
@[simp] theorem enterPowerDown_txIdx (s : State) : (enterPowerDown s).txIdx = s.txIdx := rfl
@[simp] theorem enterPowerDown_txPhase (s : State) : (enterPowerDown s).txPhase = s.txPhase := rfl
@[simp] theorem enterPowerDown_result (s : State) : (enterPowerDown s).result = s.result := rfl
@[simp] theorem enterPowerDown_reason (s : State) : (enterPowerDown s).reason = s.reason := rfl
@[simp] theorem enterPowerDown_logPend (s : State) : (enterPowerDown s).logPend = false := rfl
@[simp] theorem enterPowerDown_cfg (s : State) : (enterPowerDown s).cfg = s.cfg := rfl
@[simp] theorem enterPowerDown_ports (s : State) : (enterPowerDown s).ports = s.ports := rfl
@[simp] theorem enterPowerDown_env (s : State) : (enterPowerDown s).env = s.env := rfl
@[simp] theorem enterPowerDown_clk (s : State) : (enterPowerDown s).clk = s.clk := rfl
@[simp] theorem enterPowerDown_wires (s : State) : (enterPowerDown s).wires = s.wires := rfl
@[simp] theorem enterPowerDown_slot (s : State) : (enterPowerDown s).slot = s.slot := rfl

/-! ### `finishAttempt` -/

@[simp] theorem finishAttempt_state (s : State) : (finishAttempt s).state = if exitNow s = true then SeqState.shutdown.code else SeqState.idle.code := rfl
@[simp] theorem finishAttempt_timer (s : State) : (finishAttempt s).timer = s.timer := rfl
@[simp] theorem finishAttempt_exitPend (s : State) : (finishAttempt s).exitPend = s.exitPend := rfl
@[simp] theorem finishAttempt_devPower (s : State) : (finishAttempt s).devPower = s.devPower := rfl
@[simp] theorem finishAttempt_progEn (s : State) : (finishAttempt s).progEn = s.progEn := rfl
@[simp] theorem finishAttempt_txLineActive (s : State) : (finishAttempt s).txLineActive = s.txLineActive := rfl
@[simp] theorem finishAttempt_rxBuf (s : State) : (finishAttempt s).rxBuf = [] := rfl
@[simp] theorem finishAttempt_rxCnt (s : State) : (finishAttempt s).rxCnt = 0 := rfl
@[simp] theorem finishAttempt_ackChar (s : State) : (finishAttempt s).ackChar = 0 := rfl
@[simp] theorem finishAttempt_ackV (s : State) : (finishAttempt s).ackV = false := rfl
@[simp] theorem finishAttempt_reading (s : State) : (finishAttempt s).reading = 0 := rfl
@[simp] theorem finishAttempt_readingV (s : State) : (finishAttempt s).readingV = false := rfl
@[simp] theorem finishAttempt_refLat (s : State) : (finishAttempt s).refLat = 0 := rfl
@[simp] theorem finishAttempt_setpoint (s : State) : (finishAttempt s).setpoint = 0 := rfl
@[simp] theorem finishAttempt_setpointV (s : State) : (finishAttempt s).setpointV = false := rfl
@[simp] theorem finishAttempt_txBuf (s : State) : (finishAttempt s).txBuf = [] := rfl
@[simp] theorem finishAttempt_txLen (s : State) : (finishAttempt s).txLen = 0 := rfl
@[simp] theorem finishAttempt_txIdx (s : State) : (finishAttempt s).txIdx = 0 := rfl
@[simp] theorem finishAttempt_txPhase (s : State) : (finishAttempt s).txPhase = TxPhase.enc.code := rfl
@[simp] theorem finishAttempt_result (s : State) : (finishAttempt s).result = ResultTag.none.code := rfl
@[simp] theorem finishAttempt_reason (s : State) : (finishAttempt s).reason = 0 := rfl
@[simp] theorem finishAttempt_logPend (s : State) : (finishAttempt s).logPend = s.logPend := rfl
@[simp] theorem finishAttempt_cfg (s : State) : (finishAttempt s).cfg = s.cfg := rfl
@[simp] theorem finishAttempt_ports (s : State) : (finishAttempt s).ports = s.ports := rfl
@[simp] theorem finishAttempt_env (s : State) : (finishAttempt s).env = s.env := rfl
@[simp] theorem finishAttempt_clk (s : State) : (finishAttempt s).clk = s.clk := rfl
@[simp] theorem finishAttempt_wires (s : State) : (finishAttempt s).wires = s.wires := rfl
@[simp] theorem finishAttempt_slot (s : State) : (finishAttempt s).slot = s.slot := rfl

/-! ### `consumeByte` -/

@[simp] theorem consumeByte_state (s : State) : (consumeByte s).state = s.state := rfl
@[simp] theorem consumeByte_timer (s : State) : (consumeByte s).timer = s.timer := rfl
@[simp] theorem consumeByte_exitPend (s : State) : (consumeByte s).exitPend = s.exitPend := rfl
@[simp] theorem consumeByte_devPower (s : State) : (consumeByte s).devPower = s.devPower := rfl
@[simp] theorem consumeByte_progEn (s : State) : (consumeByte s).progEn = s.progEn := rfl
@[simp] theorem consumeByte_txLineActive (s : State) : (consumeByte s).txLineActive = s.txLineActive := rfl
@[simp] theorem consumeByte_rxBuf (s : State) : (consumeByte s).rxBuf = s.rxBuf := rfl
@[simp] theorem consumeByte_rxCnt (s : State) : (consumeByte s).rxCnt = s.rxCnt := rfl
@[simp] theorem consumeByte_ackChar (s : State) : (consumeByte s).ackChar = s.ackChar := rfl
@[simp] theorem consumeByte_ackV (s : State) : (consumeByte s).ackV = s.ackV := rfl
@[simp] theorem consumeByte_reading (s : State) : (consumeByte s).reading = s.reading := rfl
@[simp] theorem consumeByte_readingV (s : State) : (consumeByte s).readingV = s.readingV := rfl
@[simp] theorem consumeByte_refLat (s : State) : (consumeByte s).refLat = s.refLat := rfl
@[simp] theorem consumeByte_setpoint (s : State) : (consumeByte s).setpoint = s.setpoint := rfl
@[simp] theorem consumeByte_setpointV (s : State) : (consumeByte s).setpointV = s.setpointV := rfl
@[simp] theorem consumeByte_txBuf (s : State) : (consumeByte s).txBuf = s.txBuf := rfl
@[simp] theorem consumeByte_txLen (s : State) : (consumeByte s).txLen = s.txLen := rfl
@[simp] theorem consumeByte_txIdx (s : State) : (consumeByte s).txIdx = s.txIdx := rfl
@[simp] theorem consumeByte_txPhase (s : State) : (consumeByte s).txPhase = s.txPhase := rfl
@[simp] theorem consumeByte_result (s : State) : (consumeByte s).result = s.result := rfl
@[simp] theorem consumeByte_reason (s : State) : (consumeByte s).reason = s.reason := rfl
@[simp] theorem consumeByte_logPend (s : State) : (consumeByte s).logPend = s.logPend := rfl
@[simp] theorem consumeByte_cfg (s : State) : (consumeByte s).cfg = s.cfg := rfl
@[simp] theorem consumeByte_ports (s : State) : (consumeByte s).ports = { s.ports with rxValid := false } := rfl
@[simp] theorem consumeByte_env (s : State) : (consumeByte s).env = s.env := rfl
@[simp] theorem consumeByte_clk (s : State) : (consumeByte s).clk = s.clk := rfl
@[simp] theorem consumeByte_wires (s : State) : (consumeByte s).wires = s.wires := rfl
@[simp] theorem consumeByte_slot (s : State) : (consumeByte s).slot = s.slot := rfl

/-! ### `consumeTick` -/

@[simp] theorem consumeTick_state (s : State) : (consumeTick s).state = s.state := rfl
@[simp] theorem consumeTick_timer (s : State) : (consumeTick s).timer = s.timer := rfl
@[simp] theorem consumeTick_exitPend (s : State) : (consumeTick s).exitPend = s.exitPend := rfl
@[simp] theorem consumeTick_devPower (s : State) : (consumeTick s).devPower = s.devPower := rfl
@[simp] theorem consumeTick_progEn (s : State) : (consumeTick s).progEn = s.progEn := rfl
@[simp] theorem consumeTick_txLineActive (s : State) : (consumeTick s).txLineActive = s.txLineActive := rfl
@[simp] theorem consumeTick_rxBuf (s : State) : (consumeTick s).rxBuf = s.rxBuf := rfl
@[simp] theorem consumeTick_rxCnt (s : State) : (consumeTick s).rxCnt = s.rxCnt := rfl
@[simp] theorem consumeTick_ackChar (s : State) : (consumeTick s).ackChar = s.ackChar := rfl
@[simp] theorem consumeTick_ackV (s : State) : (consumeTick s).ackV = s.ackV := rfl
@[simp] theorem consumeTick_reading (s : State) : (consumeTick s).reading = s.reading := rfl
@[simp] theorem consumeTick_readingV (s : State) : (consumeTick s).readingV = s.readingV := rfl
@[simp] theorem consumeTick_refLat (s : State) : (consumeTick s).refLat = s.refLat := rfl
@[simp] theorem consumeTick_setpoint (s : State) : (consumeTick s).setpoint = s.setpoint := rfl
@[simp] theorem consumeTick_setpointV (s : State) : (consumeTick s).setpointV = s.setpointV := rfl
@[simp] theorem consumeTick_txBuf (s : State) : (consumeTick s).txBuf = s.txBuf := rfl
@[simp] theorem consumeTick_txLen (s : State) : (consumeTick s).txLen = s.txLen := rfl
@[simp] theorem consumeTick_txIdx (s : State) : (consumeTick s).txIdx = s.txIdx := rfl
@[simp] theorem consumeTick_txPhase (s : State) : (consumeTick s).txPhase = s.txPhase := rfl
@[simp] theorem consumeTick_result (s : State) : (consumeTick s).result = s.result := rfl
@[simp] theorem consumeTick_reason (s : State) : (consumeTick s).reason = s.reason := rfl
@[simp] theorem consumeTick_logPend (s : State) : (consumeTick s).logPend = s.logPend := rfl
@[simp] theorem consumeTick_cfg (s : State) : (consumeTick s).cfg = s.cfg := rfl
@[simp] theorem consumeTick_ports (s : State) : (consumeTick s).ports = { s.ports with tick := false } := rfl
@[simp] theorem consumeTick_env (s : State) : (consumeTick s).env = s.env := rfl
@[simp] theorem consumeTick_clk (s : State) : (consumeTick s).clk = s.clk := rfl
@[simp] theorem consumeTick_wires (s : State) : (consumeTick s).wires = s.wires := rfl
@[simp] theorem consumeTick_slot (s : State) : (consumeTick s).slot = s.slot := rfl

/-! ### `clearSlot` -/

@[simp] theorem clearSlot_state (s : State) : (clearSlot s).state = s.state := rfl
@[simp] theorem clearSlot_timer (s : State) : (clearSlot s).timer = s.timer := rfl
@[simp] theorem clearSlot_exitPend (s : State) : (clearSlot s).exitPend = s.exitPend := rfl
@[simp] theorem clearSlot_devPower (s : State) : (clearSlot s).devPower = s.devPower := rfl
@[simp] theorem clearSlot_progEn (s : State) : (clearSlot s).progEn = s.progEn := rfl
@[simp] theorem clearSlot_txLineActive (s : State) : (clearSlot s).txLineActive = s.txLineActive := rfl
@[simp] theorem clearSlot_rxBuf (s : State) : (clearSlot s).rxBuf = s.rxBuf := rfl
@[simp] theorem clearSlot_rxCnt (s : State) : (clearSlot s).rxCnt = s.rxCnt := rfl
@[simp] theorem clearSlot_ackChar (s : State) : (clearSlot s).ackChar = s.ackChar := rfl
@[simp] theorem clearSlot_ackV (s : State) : (clearSlot s).ackV = s.ackV := rfl
@[simp] theorem clearSlot_reading (s : State) : (clearSlot s).reading = s.reading := rfl
@[simp] theorem clearSlot_readingV (s : State) : (clearSlot s).readingV = s.readingV := rfl
@[simp] theorem clearSlot_refLat (s : State) : (clearSlot s).refLat = s.refLat := rfl
@[simp] theorem clearSlot_setpoint (s : State) : (clearSlot s).setpoint = s.setpoint := rfl
@[simp] theorem clearSlot_setpointV (s : State) : (clearSlot s).setpointV = s.setpointV := rfl
@[simp] theorem clearSlot_txBuf (s : State) : (clearSlot s).txBuf = s.txBuf := rfl
@[simp] theorem clearSlot_txLen (s : State) : (clearSlot s).txLen = s.txLen := rfl
@[simp] theorem clearSlot_txIdx (s : State) : (clearSlot s).txIdx = s.txIdx := rfl
@[simp] theorem clearSlot_txPhase (s : State) : (clearSlot s).txPhase = s.txPhase := rfl
@[simp] theorem clearSlot_result (s : State) : (clearSlot s).result = s.result := rfl
@[simp] theorem clearSlot_reason (s : State) : (clearSlot s).reason = s.reason := rfl
@[simp] theorem clearSlot_logPend (s : State) : (clearSlot s).logPend = s.logPend := rfl
@[simp] theorem clearSlot_cfg (s : State) : (clearSlot s).cfg = s.cfg := rfl
@[simp] theorem clearSlot_ports (s : State) : (clearSlot s).ports = s.ports := rfl
@[simp] theorem clearSlot_env (s : State) : (clearSlot s).env = s.env := rfl
@[simp] theorem clearSlot_clk (s : State) : (clearSlot s).clk = s.clk := rfl
@[simp] theorem clearSlot_wires (s : State) : (clearSlot s).wires = s.wires := rfl
@[simp] theorem clearSlot_slot (s : State) : (clearSlot s).slot = none := rfl

/-! ### `present` -/

@[simp] theorem present_state (b : Byte) (ferr : Bool) (s : State) : (present b ferr s).state = s.state := rfl
@[simp] theorem present_timer (b : Byte) (ferr : Bool) (s : State) : (present b ferr s).timer = s.timer := rfl
@[simp] theorem present_exitPend (b : Byte) (ferr : Bool) (s : State) : (present b ferr s).exitPend = s.exitPend := rfl
@[simp] theorem present_devPower (b : Byte) (ferr : Bool) (s : State) : (present b ferr s).devPower = s.devPower := rfl
@[simp] theorem present_progEn (b : Byte) (ferr : Bool) (s : State) : (present b ferr s).progEn = s.progEn := rfl
@[simp] theorem present_txLineActive (b : Byte) (ferr : Bool) (s : State) : (present b ferr s).txLineActive = s.txLineActive := rfl
@[simp] theorem present_rxBuf (b : Byte) (ferr : Bool) (s : State) : (present b ferr s).rxBuf = s.rxBuf := rfl
@[simp] theorem present_rxCnt (b : Byte) (ferr : Bool) (s : State) : (present b ferr s).rxCnt = s.rxCnt := rfl
@[simp] theorem present_ackChar (b : Byte) (ferr : Bool) (s : State) : (present b ferr s).ackChar = s.ackChar := rfl
@[simp] theorem present_ackV (b : Byte) (ferr : Bool) (s : State) : (present b ferr s).ackV = s.ackV := rfl
@[simp] theorem present_reading (b : Byte) (ferr : Bool) (s : State) : (present b ferr s).reading = s.reading := rfl
@[simp] theorem present_readingV (b : Byte) (ferr : Bool) (s : State) : (present b ferr s).readingV = s.readingV := rfl
@[simp] theorem present_refLat (b : Byte) (ferr : Bool) (s : State) : (present b ferr s).refLat = s.refLat := rfl
@[simp] theorem present_setpoint (b : Byte) (ferr : Bool) (s : State) : (present b ferr s).setpoint = s.setpoint := rfl
@[simp] theorem present_setpointV (b : Byte) (ferr : Bool) (s : State) : (present b ferr s).setpointV = s.setpointV := rfl
@[simp] theorem present_txBuf (b : Byte) (ferr : Bool) (s : State) : (present b ferr s).txBuf = s.txBuf := rfl
@[simp] theorem present_txLen (b : Byte) (ferr : Bool) (s : State) : (present b ferr s).txLen = s.txLen := rfl
@[simp] theorem present_txIdx (b : Byte) (ferr : Bool) (s : State) : (present b ferr s).txIdx = s.txIdx := rfl
@[simp] theorem present_txPhase (b : Byte) (ferr : Bool) (s : State) : (present b ferr s).txPhase = s.txPhase := rfl
@[simp] theorem present_result (b : Byte) (ferr : Bool) (s : State) : (present b ferr s).result = s.result := rfl
@[simp] theorem present_reason (b : Byte) (ferr : Bool) (s : State) : (present b ferr s).reason = s.reason := rfl
@[simp] theorem present_logPend (b : Byte) (ferr : Bool) (s : State) : (present b ferr s).logPend = s.logPend := rfl
@[simp] theorem present_cfg (b : Byte) (ferr : Bool) (s : State) : (present b ferr s).cfg = s.cfg := rfl
@[simp] theorem present_ports (b : Byte) (ferr : Bool) (s : State) : (present b ferr s).ports = { s.ports with rxValid := true, rxData := b, rxFerr := ferr } := rfl
@[simp] theorem present_env (b : Byte) (ferr : Bool) (s : State) : (present b ferr s).env = s.env := rfl
@[simp] theorem present_clk (b : Byte) (ferr : Bool) (s : State) : (present b ferr s).clk = s.clk := rfl
@[simp] theorem present_wires (b : Byte) (ferr : Bool) (s : State) : (present b ferr s).wires = s.wires := rfl
@[simp] theorem present_slot (b : Byte) (ferr : Bool) (s : State) : (present b ferr s).slot = s.slot := rfl

/-! ### `recordReading` -/

@[simp] theorem recordReading_state (s : State) : (recordReading s).state = s.state := rfl
@[simp] theorem recordReading_timer (s : State) : (recordReading s).timer = s.timer := rfl
@[simp] theorem recordReading_exitPend (s : State) : (recordReading s).exitPend = s.exitPend := rfl
@[simp] theorem recordReading_devPower (s : State) : (recordReading s).devPower = s.devPower := rfl
@[simp] theorem recordReading_progEn (s : State) : (recordReading s).progEn = s.progEn := rfl
@[simp] theorem recordReading_txLineActive (s : State) : (recordReading s).txLineActive = s.txLineActive := rfl
@[simp] theorem recordReading_rxBuf (s : State) : (recordReading s).rxBuf = s.rxBuf := rfl
@[simp] theorem recordReading_rxCnt (s : State) : (recordReading s).rxCnt = s.rxCnt := rfl
@[simp] theorem recordReading_ackChar (s : State) : (recordReading s).ackChar = s.ackChar := rfl
@[simp] theorem recordReading_ackV (s : State) : (recordReading s).ackV = s.ackV := rfl
@[simp] theorem recordReading_reading (s : State) : (recordReading s).reading = decodeReading s.rxBuf := rfl
@[simp] theorem recordReading_readingV (s : State) : (recordReading s).readingV = true := rfl
@[simp] theorem recordReading_refLat (s : State) : (recordReading s).refLat = refTemperature s := rfl
@[simp] theorem recordReading_setpoint (s : State) : (recordReading s).setpoint = s.setpoint := rfl
@[simp] theorem recordReading_setpointV (s : State) : (recordReading s).setpointV = s.setpointV := rfl
@[simp] theorem recordReading_txBuf (s : State) : (recordReading s).txBuf = s.txBuf := rfl
@[simp] theorem recordReading_txLen (s : State) : (recordReading s).txLen = s.txLen := rfl
@[simp] theorem recordReading_txIdx (s : State) : (recordReading s).txIdx = s.txIdx := rfl
@[simp] theorem recordReading_txPhase (s : State) : (recordReading s).txPhase = s.txPhase := rfl
@[simp] theorem recordReading_result (s : State) : (recordReading s).result = s.result := rfl
@[simp] theorem recordReading_reason (s : State) : (recordReading s).reason = s.reason := rfl
@[simp] theorem recordReading_logPend (s : State) : (recordReading s).logPend = s.logPend := rfl
@[simp] theorem recordReading_cfg (s : State) : (recordReading s).cfg = s.cfg := rfl
@[simp] theorem recordReading_ports (s : State) : (recordReading s).ports = s.ports := rfl
@[simp] theorem recordReading_env (s : State) : (recordReading s).env = s.env := rfl
@[simp] theorem recordReading_clk (s : State) : (recordReading s).clk = s.clk := rfl
@[simp] theorem recordReading_wires (s : State) : (recordReading s).wires = s.wires := rfl
@[simp] theorem recordReading_slot (s : State) : (recordReading s).slot = s.slot := rfl

/-! ### `writeResult` -/

@[simp] theorem writeResult_state (tag : ResultTag) (s : State) : (writeResult tag s).state = s.state := rfl
@[simp] theorem writeResult_timer (tag : ResultTag) (s : State) : (writeResult tag s).timer = s.timer := rfl
@[simp] theorem writeResult_exitPend (tag : ResultTag) (s : State) : (writeResult tag s).exitPend = s.exitPend := rfl
@[simp] theorem writeResult_devPower (tag : ResultTag) (s : State) : (writeResult tag s).devPower = s.devPower := rfl
@[simp] theorem writeResult_progEn (tag : ResultTag) (s : State) : (writeResult tag s).progEn = s.progEn := rfl
@[simp] theorem writeResult_txLineActive (tag : ResultTag) (s : State) : (writeResult tag s).txLineActive = s.txLineActive := rfl
@[simp] theorem writeResult_rxBuf (tag : ResultTag) (s : State) : (writeResult tag s).rxBuf = s.rxBuf := rfl
@[simp] theorem writeResult_rxCnt (tag : ResultTag) (s : State) : (writeResult tag s).rxCnt = s.rxCnt := rfl
@[simp] theorem writeResult_ackChar (tag : ResultTag) (s : State) : (writeResult tag s).ackChar = s.ackChar := rfl
@[simp] theorem writeResult_ackV (tag : ResultTag) (s : State) : (writeResult tag s).ackV = s.ackV := rfl
@[simp] theorem writeResult_reading (tag : ResultTag) (s : State) : (writeResult tag s).reading = s.reading := rfl
@[simp] theorem writeResult_readingV (tag : ResultTag) (s : State) : (writeResult tag s).readingV = s.readingV := rfl
@[simp] theorem writeResult_refLat (tag : ResultTag) (s : State) : (writeResult tag s).refLat = s.refLat := rfl
@[simp] theorem writeResult_setpoint (tag : ResultTag) (s : State) : (writeResult tag s).setpoint = s.setpoint := rfl
@[simp] theorem writeResult_setpointV (tag : ResultTag) (s : State) : (writeResult tag s).setpointV = s.setpointV := rfl
@[simp] theorem writeResult_txBuf (tag : ResultTag) (s : State) : (writeResult tag s).txBuf = s.txBuf := rfl
@[simp] theorem writeResult_txLen (tag : ResultTag) (s : State) : (writeResult tag s).txLen = s.txLen := rfl
@[simp] theorem writeResult_txIdx (tag : ResultTag) (s : State) : (writeResult tag s).txIdx = s.txIdx := rfl
@[simp] theorem writeResult_txPhase (tag : ResultTag) (s : State) : (writeResult tag s).txPhase = s.txPhase := rfl
@[simp] theorem writeResult_result (tag : ResultTag) (s : State) : (writeResult tag s).result = tag.code := rfl
@[simp] theorem writeResult_reason (tag : ResultTag) (s : State) : (writeResult tag s).reason = s.reason := rfl
@[simp] theorem writeResult_logPend (tag : ResultTag) (s : State) : (writeResult tag s).logPend = s.logPend := rfl
@[simp] theorem writeResult_cfg (tag : ResultTag) (s : State) : (writeResult tag s).cfg = s.cfg := rfl
@[simp] theorem writeResult_ports (tag : ResultTag) (s : State) : (writeResult tag s).ports = s.ports := rfl
@[simp] theorem writeResult_env (tag : ResultTag) (s : State) : (writeResult tag s).env = s.env := rfl
@[simp] theorem writeResult_clk (tag : ResultTag) (s : State) : (writeResult tag s).clk = s.clk := rfl
@[simp] theorem writeResult_wires (tag : ResultTag) (s : State) : (writeResult tag s).wires = s.wires := rfl
@[simp] theorem writeResult_slot (tag : ResultTag) (s : State) : (writeResult tag s).slot = s.slot := rfl

@[simp] theorem rxCharAck_state (s : State) : (rxCharAck s).state = s.state := by
  unfold rxCharAck; split <;> rfl
@[simp] theorem rxCharAck_timer (s : State) : (rxCharAck s).timer = s.timer := by
  unfold rxCharAck; split <;> rfl
@[simp] theorem rxCharAck_exitPend (s : State) : (rxCharAck s).exitPend = s.exitPend := by
  unfold rxCharAck; split <;> rfl
@[simp] theorem rxCharAck_devPower (s : State) : (rxCharAck s).devPower = s.devPower := by
  unfold rxCharAck; split <;> rfl
@[simp] theorem rxCharAck_progEn (s : State) : (rxCharAck s).progEn = s.progEn := by
  unfold rxCharAck; split <;> rfl
@[simp] theorem rxCharAck_txLineActive (s : State) : (rxCharAck s).txLineActive = s.txLineActive := by
  unfold rxCharAck; split <;> rfl
@[simp] theorem rxCharAck_rxBuf (s : State) : (rxCharAck s).rxBuf = s.rxBuf := by
  unfold rxCharAck; split <;> rfl
@[simp] theorem rxCharAck_rxCnt (s : State) : (rxCharAck s).rxCnt = s.rxCnt := by
  unfold rxCharAck; split <;> rfl
@[simp] theorem rxCharAck_reading (s : State) : (rxCharAck s).reading = s.reading := by
  unfold rxCharAck; split <;> rfl
@[simp] theorem rxCharAck_readingV (s : State) : (rxCharAck s).readingV = s.readingV := by
  unfold rxCharAck; split <;> rfl
@[simp] theorem rxCharAck_refLat (s : State) : (rxCharAck s).refLat = s.refLat := by
  unfold rxCharAck; split <;> rfl
@[simp] theorem rxCharAck_setpoint (s : State) : (rxCharAck s).setpoint = s.setpoint := by
  unfold rxCharAck; split <;> rfl
@[simp] theorem rxCharAck_setpointV (s : State) : (rxCharAck s).setpointV = s.setpointV := by
  unfold rxCharAck; split <;> rfl
@[simp] theorem rxCharAck_txBuf (s : State) : (rxCharAck s).txBuf = s.txBuf := by
  unfold rxCharAck; split <;> rfl
@[simp] theorem rxCharAck_txLen (s : State) : (rxCharAck s).txLen = s.txLen := by
  unfold rxCharAck; split <;> rfl
@[simp] theorem rxCharAck_txIdx (s : State) : (rxCharAck s).txIdx = s.txIdx := by
  unfold rxCharAck; split <;> rfl
@[simp] theorem rxCharAck_txPhase (s : State) : (rxCharAck s).txPhase = s.txPhase := by
  unfold rxCharAck; split <;> rfl
@[simp] theorem rxCharAck_result (s : State) : (rxCharAck s).result = s.result := by
  unfold rxCharAck; split <;> rfl
@[simp] theorem rxCharAck_reason (s : State) : (rxCharAck s).reason = s.reason := by
  unfold rxCharAck; split <;> rfl
@[simp] theorem rxCharAck_logPend (s : State) : (rxCharAck s).logPend = s.logPend := by
  unfold rxCharAck; split <;> rfl
@[simp] theorem rxCharAck_cfg (s : State) : (rxCharAck s).cfg = s.cfg := by
  unfold rxCharAck; split <;> rfl
@[simp] theorem rxCharAck_ports (s : State) : (rxCharAck s).ports = s.ports := by
  unfold rxCharAck; split <;> rfl
@[simp] theorem rxCharAck_env (s : State) : (rxCharAck s).env = s.env := by
  unfold rxCharAck; split <;> rfl
@[simp] theorem rxCharAck_clk (s : State) : (rxCharAck s).clk = s.clk := by
  unfold rxCharAck; split <;> rfl
@[simp] theorem rxCharAck_wires (s : State) : (rxCharAck s).wires = s.wires := by
  unfold rxCharAck; split <;> rfl
@[simp] theorem rxCharAck_slot (s : State) : (rxCharAck s).slot = s.slot := by
  unfold rxCharAck; split <;> rfl
@[simp] theorem rxCharAck_ackChar (s : State) :
    (rxCharAck s).ackChar = if rxTakes s = true then s.ports.rxData else s.ackChar := by
  unfold rxCharAck; split <;> rfl
@[simp] theorem rxCharAck_ackV (s : State) : (rxCharAck s).ackV = if rxTakes s = true then true else s.ackV := by
  unfold rxCharAck; split <;> rfl

end Sys2Proof.Machine
end

