-- ==== Sys2Proof/Laws/Ops.lean ====
section
/-! SUPPORT. What each shared operation can do, said once: proofs cite these and do not unfold the operations. -/

namespace Sys2Proof.Machine

/-! ### Outcomes -/

@[simp] theorem andThen_next {α β : Type} (s : α) (f : α → Host.Outcome β Fault Refusal) : andThen (.next s) f = f s := rfl
@[simp] theorem andThen_fault {α β : Type} (e : Fault) (f : α → Host.Outcome β Fault Refusal) :
    andThen (.fault e) f = .fault e := rfl
@[simp] theorem andThen_refused {α β : Type} (e : Refusal) (f : α → Host.Outcome β Fault Refusal) :
    andThen (.refused e) f = .refused e := rfl

/-- If a sequence answers a next state, both parts did. -/
theorem andThen_eq_next {α β : Type} {r : Host.Outcome α Fault Refusal} {f : α → Host.Outcome β Fault Refusal} {t : β}
    (h : andThen r f = .next t) : ∃ u, r = .next u ∧ f u = .next t := by
  cases r with
  | next u => exact ⟨u, rfl, h⟩
  | fault e => cases h
  | refused e => cases h

/-! ### Frame buffers -/

/-- A write to an existing element of `rx_buf`. -/
theorem writeRx_eq {i : Nat} (h : i < 6) (v : Byte) (s : State) :
    writeRx i v s = .next { s with rxBuf := s.rxBuf.write i v } := by
  simp [writeRx, rxSize, h]

/-- A write to `rx_buf` that completes was to an existing element. -/
theorem writeRx_eq_next {i : Nat} {v : Byte} {s t : State} (h : writeRx i v s = .next t) :
    i < 6 ∧ t = { s with rxBuf := s.rxBuf.write i v } := by
  unfold writeRx rxSize at h
  split at h
  · rename_i hi; cases h; exact ⟨hi, rfl⟩
  · cases h

/-- A frame whose last element exists is written whole. -/
theorem writeTxFrom_eq {f : List Byte} {i : Nat} {s : State} (h : i + f.length ≤ 9) :
    writeTxFrom i f s = .next { s with txBuf := s.txBuf.writeList i f } := by
  induction f generalizing i s with
  | nil => rfl
  | cons c rest ih =>
    simp only [List.length_cons] at h
    have hi : i < txSize := by unfold txSize; omega
    simp only [writeTxFrom, writeTx, hi, if_true, andThen_next]
    rw [ih (by omega)]
    rfl

/-- The writes of a frame that complete wrote it whole. -/
theorem writeTxFrom_eq_next {f : List Byte} {i : Nat} {s t : State} (h : writeTxFrom i f s = .next t) :
    t = { s with txBuf := s.txBuf.writeList i f } := by
  induction f generalizing i s with
  | nil => cases h; rfl
  | cons c rest ih =>
    obtain ⟨u, hu, ht⟩ := andThen_eq_next h
    unfold writeTx at hu
    split at hu
    · cases hu; exact ih ht
    · cases hu

/-- A run of writes keeps the canonical form. -/
theorem Memory.writeList_wf (f : List Byte) (i : Nat) (m : Memory) (h : m.wf = true) : (m.writeList i f).wf = true := by
  induction f generalizing i m with
  | nil => exact h
  | cons c rest ih => exact ih (i + 1) _ (Memory.write_wf m i c h)

/-- A run of writes leaves every element outside it alone. -/
theorem Memory.read_writeList_other (f : List Byte) (i j : Nat) (m : Memory) (h : j < i ∨ i + f.length ≤ j) :
    (m.writeList i f).read j = m.read j := by
  induction f generalizing i m with
  | nil => rfl
  | cons c rest ih =>
    simp only [List.length_cons] at h
    rw [Memory.writeList, ih (i + 1) _ (by omega), Memory.read_write_other c (by omega)]

/-- A run of writes is read back. -/
theorem Memory.read_writeList (f : List Byte) (i j : Nat) (m : Memory) (h : m.wf = true) (hj : j < f.length) :
    (m.writeList i f).read (i + j) = f[j] := by
  induction f generalizing i j m with
  | nil => simp at hj
  | cons c rest ih =>
    cases j with
    | zero =>
      rw [Memory.writeList, Memory.read_writeList_other _ _ _ _ (by omega)]
      simp [h]
    | succ j =>
      have := ih (i + 1) j (m.write i c) (Memory.write_wf m i c h) (by simpa using hj)
      rw [Memory.writeList, show i + (j + 1) = i + 1 + j by omega, this]
      simp

/-! ### Configuration sampling -/

theorem sampleConfig_held {s : State} (h : s.ports.reconfig = none) : sampleConfig s = some s := by
  unfold sampleConfig; rw [h]

/-- A sampled configuration changes no register, and differs from the held one only where R52 allows a change. -/
theorem sampleConfig_cases {s t : State} (h : sampleConfig s = some t) :
    t = { s with cfg := t.cfg } ∧ t.cfg.timerW = s.cfg.timerW ∧
      (t.cfg = s.cfg ∨ s.ports.rst = true ∨ s.state = 0 ∨ s.state = 10) := by
  unfold sampleConfig at h
  dsimp only at h
  split at h
  · cases h; exact ⟨rfl, rfl, .inl rfl⟩
  · split at h
    · rename_i hc
      cases h
      refine ⟨rfl, rfl, ?_⟩
      rcases hc with hc | hc | hc | hc
      · exact .inl hc
      · exact .inr (.inl hc)
      · exact .inr (.inr (.inl (by simpa [State.isIn, SeqState.code] using hc)))
      · exact .inr (.inr (.inr (by simpa [State.isIn, SeqState.code] using hc)))
    · cases h

/-! ### `goto` and the failure entry -/

theorem goto_exit (e : State → State) {s : State} (h : exitNow s = true) : goto e s = enterPowerDown s := by
  simp [goto, h]

theorem goto_enter (e : State → State) {s : State} (h : exitNow s = false) : goto e s = e s := by
  simp [goto, h]

theorem raiseFail_exit (r : Reason) {s : State} (h : exitNow s = true) : raiseFail r s = enterPowerDown s :=
  goto_exit _ h

theorem raiseFail_enter (r : Reason) {s : State} (h : exitNow s = false) : raiseFail r s = enterFail r s :=
  goto_enter _ h

/-- A failure entry goes to `PowerDown` or to `Fail`. -/
theorem raiseFail_cases (r : Reason) (s : State) :
    (exitNow s = true ∧ raiseFail r s = enterPowerDown s) ∨ (exitNow s = false ∧ raiseFail r s = enterFail r s) := by
  cases h : exitNow s
  · exact .inr ⟨rfl, raiseFail_enter r h⟩
  · exact .inl ⟨rfl, raiseFail_exit r h⟩

/-- The exit request of a step is the same before and after the latch. -/
@[simp] theorem exitNow_prelude (s : State) : exitNow (prelude s) = exitNow s := by
  simp [exitNow, prelude]

@[simp] theorem exitNow_dec (s : State) : exitNow (dec s) = exitNow s := rfl
@[simp] theorem exitNow_rxCharAck (s : State) : exitNow (rxCharAck s) = exitNow s := by simp [exitNow]

/-- Without an exit request `goto`'s target is entered, on the state after the latch and whatever the rule recorded. -/
theorem orExit_enter {s u : State} (f : State → State) (he : (s.exitPend || s.ports.exitReq) = false)
    (h1 : u.exitPend = (s.exitPend || s.ports.exitReq)) (h2 : u.ports = s.ports) : orExit u f = f u :=
  if_neg (by rw [h1, h2, he, Bool.false_or, (Bool.or_eq_false_iff.mp he).2]; exact Bool.false_ne_true)

/-- The output ports are functions of the registers: the next input vector shows on none of them (R24). -/
@[simp] theorem outputs_advance (s : State) : outputs (advance s) = outputs s := rfl

/-- A state is as `clear_attempt` leaves it iff its attempt registers are all 0. -/
theorem cleared_eq_self_iff (s : State) : cleared s = s ↔
    s.rxBuf = [] ∧ s.rxCnt = 0 ∧ s.ackChar = 0 ∧ s.ackV = false ∧ s.reading = 0 ∧ s.readingV = false ∧ s.refLat = 0 ∧
    s.setpoint = 0 ∧ s.setpointV = false ∧ s.txBuf = [] ∧ s.txLen = 0 ∧ s.txIdx = 0 ∧ s.txPhase = 0 ∧ s.reason = 0 := by
  constructor
  · intro h
    refine ⟨(congrArg State.rxBuf h).symm, (congrArg State.rxCnt h).symm, (congrArg State.ackChar h).symm,
      (congrArg State.ackV h).symm, (congrArg State.reading h).symm, (congrArg State.readingV h).symm,
      (congrArg State.refLat h).symm, (congrArg State.setpoint h).symm, (congrArg State.setpointV h).symm,
      (congrArg State.txBuf h).symm, (congrArg State.txLen h).symm, (congrArg State.txIdx h).symm,
      (congrArg State.txPhase h).symm, (congrArg State.reason h).symm⟩
  · rintro ⟨h1, h2, h3, h4, h5, h6, h7, h8, h9, h10, h11, h12, h13, h14⟩
    cases s
    simp_all [cleared]

/-! ### The receiver and the codec -/

/-- No accepted byte: nothing is stored. -/
theorem rxCharInbound_none {s : State} (h : rxTakes s = false) : rxCharInbound s = .next s := by
  simp [rxCharInbound, h]

/-- An accepted byte with room in the buffer is stored at the count. -/
theorem rxCharInbound_some {s : State} (h : rxTakes s = true) (hc : s.rxCnt < 6) :
    rxCharInbound s = .next { s with rxBuf := s.rxBuf.write s.rxCnt s.ports.rxData, rxCnt := s.rxCnt + 1 } := by
  simp [rxCharInbound, h, writeRx_eq hc]

/-- What a completed inbound `RXCHAR` did. -/
theorem rxCharInbound_cases {s t : State} (h : rxCharInbound s = .next t) :
    (rxTakes s = false ∧ t = s) ∨
    (rxTakes s = true ∧ s.rxCnt < 6 ∧
      t = { s with rxBuf := s.rxBuf.write s.rxCnt s.ports.rxData, rxCnt := s.rxCnt + 1 }) := by
  unfold rxCharInbound at h
  split at h
  · rename_i ht
    obtain ⟨u, hu, hn⟩ := andThen_eq_next h
    obtain ⟨hc, rfl⟩ := writeRx_eq_next hu
    cases hn
    exact .inr ⟨ht, hc, rfl⟩
  · rename_i ht
    cases h
    exact .inl ⟨by simpa using ht, rfl⟩

/-- What `DECODEINBOUND` does, in the order of its tests. -/
theorem decodeInbound_cases (s : State) :
    (s.rxCnt < 6 ∧ decodeInbound s = raiseFail .incomplete s) ∨
    (6 ≤ s.rxCnt ∧ s.rxBuf.read 0 ≠ 0x47#8 ∧ decodeInbound s = raiseFail .badSentinel s) ∨
    (6 ≤ s.rxCnt ∧ s.rxBuf.read 0 = 0x47#8 ∧ decodeInbound s = goto enterValidate s) := by
  unfold decodeInbound
  split_ifs with h1 h2
  · exact .inl ⟨h1, rfl⟩
  · exact .inr (.inl ⟨by omega, h2, rfl⟩)
  · exact .inr (.inr ⟨by omega, by simpa using h2, rfl⟩)

/-- A frame of at most nine characters is loaded whole. -/
theorem loadFrame_eq {f : List Byte} {s : State} (h : f.length ≤ 9) :
    loadFrame f s = .next { s with
      txBuf := s.txBuf.writeList 0 f, txLineActive := true, txLen := f.length, txIdx := 0,
      txPhase := TxPhase.char.code } := by
  rw [loadFrame, writeTxFrom_eq (by omega)]
  rfl

/-- What a completed load did. -/
theorem loadFrame_eq_next {f : List Byte} {s t : State} (h : loadFrame f s = .next t) :
    t = { s with
      txBuf := s.txBuf.writeList 0 f, txLineActive := true, txLen := f.length, txIdx := 0,
      txPhase := TxPhase.char.code } := by
  obtain ⟨u, hu, ht⟩ := andThen_eq_next h
  have := writeTxFrom_eq_next hu
  subst this
  cases ht
  rfl

/-- The outbound frame has at most nine characters. -/
theorem encodeFrame_length {cfg : Config} {sp : Int} {f : List Byte} (hc : cfg.wf = true) (h : encodeFrame cfg sp = some f) :
    0 ≤ sp ∧ sp ≤ 65535 ∧ 4 ≤ f.length ∧ f.length ≤ 9 := by
  have hd : ∀ n, 1 ≤ (dropLeadingZeros (spDigits n)).length ∧ (dropLeadingZeros (spDigits n)).length ≤ 4 := by
    intro n
    simp only [spDigits, dropLeadingZeros]
    split_ifs <;> simp
  have hp : cfg.addrPrefix.length ≤ 2 := by
    simp only [Config.wf, Bool.and_eq_true, decide_eq_true_eq] at hc
    omega
  unfold encodeFrame at h
  split at h
  · cases h
  · rename_i hr
    cases h
    have := hd sp.toNat
    refine ⟨by omega, by omega, ?_, ?_⟩ <;> simp only [List.length_append, List.length_cons, List.length_nil] <;>
      split <;> simp only [spDigits, List.length_cons, List.length_nil] at * <;> omega

/-! ### The clock edge -/

/-- An ordinary edge runs the rule and brings the next inputs. -/
theorem clockEdge_ordinary {rule : State → Result} {s : State} (h : Ordinary s) :
    clockEdge rule s = andThen (rule s) (fun t => .next (advance t)) := by
  simp [clockEdge, sampleConfig_held h.2.1, h.1, h.2.2]

/-- On a reset edge the configuration that the lines carry is taken. -/
theorem sampleConfig_reset {s : State} (h : s.ports.rst = true) : sampleConfig s = some { s with cfg := configTaken s } := by
  unfold sampleConfig configTaken
  cases s.ports.reconfig with
  | none => rfl
  | some c => simp [h]

/-- A reset edge, whatever the rule and the other inputs. -/
theorem clockEdge_reset {rule : State → Result} {s : State} (h : s.ports.rst = true) :
    clockEdge rule s = .next (advance (rowReset s)) := by
  unfold clockEdge
  rw [sampleConfig_reset h]
  simp only [h, if_true]
  rfl

/-- What a completed edge did: reset, or the rule. -/
theorem clockEdge_eq_next {rule : State → Result} {s t : State} (h : clockEdge rule s = .next t) :
    ∃ s1, sampleConfig s = some s1 ∧
      ((s1.ports.rst = true ∧ t = advance (resetRegs s1)) ∨
       (s1.ports.rst = false ∧ s1.cfg.wf = true ∧ ∃ u, rule s1 = .next u ∧ t = advance u)) := by
  unfold clockEdge at h
  split at h
  · cases h
  · rename_i s1 hs
    refine ⟨s1, hs, ?_⟩
    split at h
    · rename_i hr; cases h; exact .inl ⟨hr, rfl⟩
    · rename_i hr
      split at h
      · rename_i hw
        obtain ⟨u, hu, ht⟩ := andThen_eq_next h
        cases ht
        exact .inr ⟨by simpa using hr, hw, u, hu, rfl⟩
      · cases h

/-- An ordinary step of a state. -/
theorem stateStep_ordinary {rule : State → Result} {s : State} (h : Ordinary s) :
    stateStep rule s = andThen (rule (prelude s)) (fun t => .next (advance t)) :=
  clockEdge_ordinary h

/-- What a completed step of a state did. -/
theorem stateStep_eq_next {rule : State → Result} {s t : State} (h : stateStep rule s = .next t) :
    ∃ s1, sampleConfig s = some s1 ∧
      ((s1.ports.rst = true ∧ t = advance (resetRegs s1)) ∨
       (s1.ports.rst = false ∧ s1.cfg.wf = true ∧ ∃ u, rule (prelude s1) = .next u ∧ t = advance u)) :=
  clockEdge_eq_next h

/-- The rule the `state` register selects. -/
theorem runState_eq (s : State) :
    (s.state = 0 ∧ runState s = execStIdle s) ∨ (s.state = 1 ∧ runState s = execStPowerup s) ∨
    (s.state = 2 ∧ runState s = execStAwaitinbound s) ∨ (s.state = 3 ∧ runState s = execStValidate s) ∨
    (s.state = 4 ∧ runState s = execStCompute s) ∨ (s.state = 5 ∧ runState s = execStTransmit s) ∨
    (s.state = 6 ∧ runState s = execStAwaitack s) ∨ (s.state = 7 ∧ runState s = execStPass s) ∨
    (s.state = 8 ∧ runState s = execStFail s) ∨ (s.state = 9 ∧ runState s = execStPowerdown s) ∨
    (s.state = 10 ∧ runState s = execStShutdown s) ∨
    (11 ≤ s.state.toNat ∧ runState s = execStUnused s.state s) := by
  have key : ∀ c : BitVec 4, c = 0 ∨ c = 1 ∨ c = 2 ∨ c = 3 ∨ c = 4 ∨ c = 5 ∨ c = 6 ∨ c = 7 ∨ c = 8 ∨ c = 9 ∨ c = 10 ∨
      c = 11 ∨ c = 12 ∨ c = 13 ∨ c = 14 ∨ c = 15 := by decide
  rcases key s.state with h | h | h | h | h | h | h | h | h | h | h | h | h | h | h | h <;> simp [runState, h]

/-! ### Operations of several steps -/

/-- An ordinary edge of an operation runs its edge function. -/
theorem oneEdge_ordinary {edge : State → Host.Outcome (State × EdgeEnd) Fault Refusal} {s : State} (h : Ordinary s) :
    oneEdge edge s = andThen (edge s) (fun p => .next (endEdge p)) := by
  simp [oneEdge, sampleConfig_held h.2.1, h.1, h.2.2]

/-- The operation ends with this step, whose rule is not over. -/
theorem manyEdges_open {edge : State → Host.Outcome (State × EdgeEnd) Fault Refusal} {s t : State} (h : Ordinary s)
    (he : edge s = .next (t, .openStep)) (later : List Inputs) : manyEdges edge later s = .next (consumeTick t) := by
  cases later <;> simp [manyEdges, oneEdge_ordinary h, he, endEdge]

/-- The operation ends with this step. -/
theorem manyEdges_closed {edge : State → Host.Outcome (State × EdgeEnd) Fault Refusal} {s t : State} (h : Ordinary s)
    (he : edge s = .next (t, .closedStep)) (later : List Inputs) : manyEdges edge later s = .next (advance t) := by
  cases later <;> simp [manyEdges, oneEdge_ordinary h, he, endEdge]

/-- The operation goes on at the next listed input vector. -/
theorem manyEdges_more {edge : State → Host.Outcome (State × EdgeEnd) Fault Refusal} {s t : State} (h : Ordinary s)
    (he : edge s = .next (t, .more)) (i : Inputs) (rest : List Inputs) :
    manyEdges edge (i :: rest) s = manyEdges edge rest (advance t) := by
  simp [manyEdges, oneEdge_ordinary h, he, endEdge]

/-- What the statements call the inputs left by a read are those with the byte consumed and the tick seen. -/
theorem readSpent_eq (s : State) : readSpent s = consumeTick (consumeByte s) := rfl

/-- What the statements call the inputs left by a write are those with the tick seen. -/
theorem tickSpent_eq (s : State) : tickSpent s = consumeTick s := rfl

/-- One step of a read in the inbound window with no transport failure: the byte, the tick, and whether the read is over. -/
theorem readEdge_inbound {s : State} (L : Nat) (h2 : s.state = 2) (hx : s.ports.xportErr = false) :
    readEdge L s = andThen (rxCharInbound (prelude s)) (fun t =>
      .next (consumeByte (dec t), windowEnd (decide (L ≤ t.rxCnt)) (dec t))) := by
  unfold readEdge inboundEdge
  have hi : s.isIn .awaitInbound = true := by simp [State.isIn, h2, SeqState.code]
  rw [if_neg (by simp [hx]), if_pos hi]
  cases rxCharInbound (prelude s) <;> rfl

/-- One step of a read in the acknowledgement window with no transport failure. -/
theorem readEdge_ack {s : State} (L : Nat) (h6 : s.state = 6) (hx : s.ports.xportErr = false) :
    readEdge L s = .next (consumeByte (ackEdge (prelude s)).1, (ackEdge (prelude s)).2) := by
  unfold readEdge
  have hi : ¬ s.isIn .awaitInbound = true := by simp [State.isIn, h6, SeqState.code]
  rw [if_neg (by simp [hx]), if_neg hi]
  rfl

/-- A step of a read with a transport failure ends it. -/
theorem readEdge_fault {s : State} (L : Nat) (hx : s.ports.xportErr = true) :
    readEdge L s = .next (raiseFail .transportError (prelude s), .closedStep) := by
  unfold readEdge
  rw [if_pos hx]

/-- The decision on an acknowledgement character is one entry, under the exit override. -/
theorem decideAck_eq (s : State) : decideAck s = goto (if s.ackChar = 0x59#8 then enterPass else enterFail .unverified) s := by
  unfold decideAck raiseFail
  split <;> rfl

/-- In a window that has the characters asked for there is nothing to read. -/
theorem execReadframe_complete {s : State} {L : Nat} (T : Nat) (h : readComplete L s = true) :
    execReadframe L T s = .next s := by
  simp [execReadframe, h]

/-- A read in an open window. -/
theorem execReadframe_open {s : State} {L : Nat} (T : Nat) (hr : rxReady s = true) (h : readComplete L s = false) :
    execReadframe L T s = manyEdges (readEdge L) s.env { s with timer := T } := by
  simp [execReadframe, hr, h]

/-- Outside the read windows there is no read. -/
theorem execReadframe_outside {s : State} (L T : Nat) (h : rxReady s = false) : execReadframe L T s = .next s := by
  simp [execReadframe, h]

/-- Outside `Transmit` there is no write. -/
theorem execWriteframe_outside {s : State} (h : s.isIn .transmit = false) :
    execWriteframe s = .next s ∧ execTxchar s = .next s := by
  simp [execWriteframe, execTxchar, h]

/-- An operation that reads the configuration runs under a legal one. -/
theorem underLegalConfig_legal {op : State → Result} {s : State} (h : s.cfg.wf = true) : underLegalConfig op s = op s := by
  simp [underLegalConfig, h]

/-- An operation that reads the configuration is refused under an illegal one. -/
theorem underLegalConfig_illegal {op : State → Result} {s : State} (h : s.cfg.wf = false) :
    underLegalConfig op s = .refused .configOutsideLimits := by
  simp [underLegalConfig, h]

/-- The operation is left in progress where the listed inputs end. -/
theorem manyEdges_last {edge : State → Host.Outcome (State × EdgeEnd) Fault Refusal} {s t : State} (h : Ordinary s)
    (he : edge s = .next (t, .more)) : manyEdges edge [] s = .next (advance t) := by
  simp [manyEdges, oneEdge_ordinary h, he, endEdge]

end Sys2Proof.Machine
end

