-- ==== Sys2Proof/Laws/PerInstr.lean ====
section
/-! SUPPORT. The family `WordLength`, one lemma per constructor: an encoded word has one to nine bytes, so every frame fits a
frame buffer of R41 or the longest outbound frame (R64). -/

namespace Sys2Proof

/-- Every word that encodes the row has between one and nine bytes. -/
def Laws.WordLength.Statement (i : Instr) : Prop := ∀ w, encode i = some w → 1 ≤ w.bytes.length ∧ w.bytes.length ≤ 9

theorem Laws.WordLength.ch0 : Laws.WordLength.Statement .ch0 := by
  intro w h; cases h; decide
theorem Laws.WordLength.ch1 : Laws.WordLength.Statement .ch1 := by
  intro w h; cases h; decide
theorem Laws.WordLength.ch2 : Laws.WordLength.Statement .ch2 := by
  intro w h; cases h; decide
theorem Laws.WordLength.ch3 : Laws.WordLength.Statement .ch3 := by
  intro w h; cases h; decide
theorem Laws.WordLength.ch4 : Laws.WordLength.Statement .ch4 := by
  intro w h; cases h; decide
theorem Laws.WordLength.ch5 : Laws.WordLength.Statement .ch5 := by
  intro w h; cases h; decide
theorem Laws.WordLength.ch6 : Laws.WordLength.Statement .ch6 := by
  intro w h; cases h; decide
theorem Laws.WordLength.ch7 : Laws.WordLength.Statement .ch7 := by
  intro w h; cases h; decide
theorem Laws.WordLength.ch8 : Laws.WordLength.Statement .ch8 := by
  intro w h; cases h; decide
theorem Laws.WordLength.ch9 : Laws.WordLength.Statement .ch9 := by
  intro w h; cases h; decide
theorem Laws.WordLength.chA : Laws.WordLength.Statement .chA := by
  intro w h; cases h; decide
theorem Laws.WordLength.chB : Laws.WordLength.Statement .chB := by
  intro w h; cases h; decide
theorem Laws.WordLength.chC : Laws.WordLength.Statement .chC := by
  intro w h; cases h; decide
theorem Laws.WordLength.chD : Laws.WordLength.Statement .chD := by
  intro w h; cases h; decide
theorem Laws.WordLength.chE : Laws.WordLength.Statement .chE := by
  intro w h; cases h; decide
theorem Laws.WordLength.chF : Laws.WordLength.Statement .chF := by
  intro w h; cases h; decide
theorem Laws.WordLength.chG : Laws.WordLength.Statement .chG := by
  intro w h; cases h; decide
theorem Laws.WordLength.chH : Laws.WordLength.Statement .chH := by
  intro w h; cases h; decide
theorem Laws.WordLength.chY : Laws.WordLength.Statement .chY := by
  intro w h; cases h; decide
theorem Laws.WordLength.noise (b : Byte) (ferr : Bool) : Laws.WordLength.Statement (.noise b ferr) := by
  intro w h; cases h; simp
theorem Laws.WordLength.frameInbound (d0 d1 d2 d3 k : Byte) : Laws.WordLength.Statement (.frameInbound d0 d1 d2 d3 k) := by
  intro w h; cases h; simp [OpWord.ofFrame]
theorem Laws.WordLength.frameOutboundPadP0 (h0 h1 h2 h3 k : Byte) : Laws.WordLength.Statement (.frameOutboundPadP0 h0 h1 h2 h3 k) := by
  intro w h; cases h; simp [OpWord.ofFrame]
theorem Laws.WordLength.frameOutboundUnpadP0D1 (h3 k : Byte) : Laws.WordLength.Statement (.frameOutboundUnpadP0D1 h3 k) := by
  intro w h; cases h; simp [OpWord.ofFrame]
theorem Laws.WordLength.frameOutboundUnpadP0D2 (h2 h3 k : Byte) : Laws.WordLength.Statement (.frameOutboundUnpadP0D2 h2 h3 k) := by
  intro w h; cases h; simp [OpWord.ofFrame]
theorem Laws.WordLength.frameOutboundUnpadP0D3 (h1 h2 h3 k : Byte) : Laws.WordLength.Statement (.frameOutboundUnpadP0D3 h1 h2 h3 k) := by
  intro w h; cases h; simp [OpWord.ofFrame]
theorem Laws.WordLength.frameOutboundPadP1 (p h0 h1 h2 h3 k : Byte) : Laws.WordLength.Statement (.frameOutboundPadP1 p h0 h1 h2 h3 k) := by
  intro w h; cases h; simp [OpWord.ofFrame]
theorem Laws.WordLength.frameOutboundUnpadP1D1 (p h3 k : Byte) : Laws.WordLength.Statement (.frameOutboundUnpadP1D1 p h3 k) := by
  intro w h; cases h; simp [OpWord.ofFrame]
theorem Laws.WordLength.frameOutboundUnpadP1D2 (p h2 h3 k : Byte) : Laws.WordLength.Statement (.frameOutboundUnpadP1D2 p h2 h3 k) := by
  intro w h; cases h; simp [OpWord.ofFrame]
theorem Laws.WordLength.frameOutboundUnpadP1D3 (p h1 h2 h3 k : Byte) : Laws.WordLength.Statement (.frameOutboundUnpadP1D3 p h1 h2 h3 k) := by
  intro w h; cases h; simp [OpWord.ofFrame]
theorem Laws.WordLength.frameOutboundPadP2 (p q h0 h1 h2 h3 k : Byte) : Laws.WordLength.Statement (.frameOutboundPadP2 p q h0 h1 h2 h3 k) := by
  intro w h; cases h; simp [OpWord.ofFrame]
theorem Laws.WordLength.frameOutboundUnpadP2D1 (p q h3 k : Byte) : Laws.WordLength.Statement (.frameOutboundUnpadP2D1 p q h3 k) := by
  intro w h; cases h; simp [OpWord.ofFrame]
theorem Laws.WordLength.frameOutboundUnpadP2D2 (p q h2 h3 k : Byte) : Laws.WordLength.Statement (.frameOutboundUnpadP2D2 p q h2 h3 k) := by
  intro w h; cases h; simp [OpWord.ofFrame]
theorem Laws.WordLength.frameOutboundUnpadP2D3 (p q h1 h2 h3 k : Byte) : Laws.WordLength.Statement (.frameOutboundUnpadP2D3 p q h1 h2 h3 k) := by
  intro w h; cases h; simp [OpWord.ofFrame]
theorem Laws.WordLength.frameAck : Laws.WordLength.Statement .frameAck := by
  intro w h; cases h; decide
theorem Laws.WordLength.accept (b : Byte) (ferr : Bool) : Laws.WordLength.Statement (.accept b ferr) := by
  intro w h; cases h
theorem Laws.WordLength.rxchar : Laws.WordLength.Statement .rxchar := by
  intro w h; cases h
theorem Laws.WordLength.readframe (expected deadline : Nat) : Laws.WordLength.Statement (.readframe expected deadline) := by
  intro w h; cases h
theorem Laws.WordLength.hexval (c : Byte) : Laws.WordLength.Statement (.hexval c) := by
  intro w h; cases h
theorem Laws.WordLength.hexchar (v : Nibble) : Laws.WordLength.Statement (.hexchar v) := by
  intro w h; cases h
theorem Laws.WordLength.checksum (v0 v1 v2 v3 : Nibble) : Laws.WordLength.Statement (.checksum v0 v1 v2 v3) := by
  intro w h; cases h
theorem Laws.WordLength.decodeinbound : Laws.WordLength.Statement .decodeinbound := by
  intro w h; cases h
theorem Laws.WordLength.verifychecksum : Laws.WordLength.Statement .verifychecksum := by
  intro w h; cases h
theorem Laws.WordLength.decodereading : Laws.WordLength.Statement .decodereading := by
  intro w h; cases h
theorem Laws.WordLength.encodeoutbound (sp : Int) : Laws.WordLength.Statement (.encodeoutbound sp) := by
  intro w h; cases h
theorem Laws.WordLength.computesetpoint (raw : BitVec 16) (tref : Int) : Laws.WordLength.Statement (.computesetpoint raw tref) := by
  intro w h; cases h
theorem Laws.WordLength.txchar : Laws.WordLength.Statement .txchar := by
  intro w h; cases h
theorem Laws.WordLength.writeframe : Laws.WordLength.Statement .writeframe := by
  intro w h; cases h
theorem Laws.WordLength.settxline (active : Bool) : Laws.WordLength.Statement (.settxline active) := by
  intro w h; cases h
theorem Laws.WordLength.stIdle : Laws.WordLength.Statement .stIdle := by
  intro w h; cases h; decide
theorem Laws.WordLength.stPowerup : Laws.WordLength.Statement .stPowerup := by
  intro w h; cases h; decide
theorem Laws.WordLength.stAwaitinbound : Laws.WordLength.Statement .stAwaitinbound := by
  intro w h; cases h; decide
theorem Laws.WordLength.stValidate : Laws.WordLength.Statement .stValidate := by
  intro w h; cases h; decide
theorem Laws.WordLength.stCompute : Laws.WordLength.Statement .stCompute := by
  intro w h; cases h; decide
theorem Laws.WordLength.stTransmit : Laws.WordLength.Statement .stTransmit := by
  intro w h; cases h; decide
theorem Laws.WordLength.stAwaitack : Laws.WordLength.Statement .stAwaitack := by
  intro w h; cases h; decide
theorem Laws.WordLength.stPass : Laws.WordLength.Statement .stPass := by
  intro w h; cases h; decide
theorem Laws.WordLength.stFail : Laws.WordLength.Statement .stFail := by
  intro w h; cases h; decide
theorem Laws.WordLength.stPowerdown : Laws.WordLength.Statement .stPowerdown := by
  intro w h; cases h; decide
theorem Laws.WordLength.stShutdown : Laws.WordLength.Statement .stShutdown := by
  intro w h; cases h; decide
theorem Laws.WordLength.stUnused (code : BitVec 4) : Laws.WordLength.Statement (.stUnused code) := by
  intro w h; cases h; simp [OpWord.ofState]
theorem Laws.WordLength.txphEnc : Laws.WordLength.Statement .txphEnc := by
  intro w h; cases h; decide
theorem Laws.WordLength.txphChar : Laws.WordLength.Statement .txphChar := by
  intro w h; cases h; decide
theorem Laws.WordLength.txphGap : Laws.WordLength.Statement .txphGap := by
  intro w h; cases h; decide
theorem Laws.WordLength.resNone : Laws.WordLength.Statement .resNone := by
  intro w h; cases h; decide
theorem Laws.WordLength.resPending : Laws.WordLength.Statement .resPending := by
  intro w h; cases h; decide
theorem Laws.WordLength.resPassed : Laws.WordLength.Statement .resPassed := by
  intro w h; cases h; decide
theorem Laws.WordLength.resFailed : Laws.WordLength.Statement .resFailed := by
  intro w h; cases h; decide
theorem Laws.WordLength.rsnNone : Laws.WordLength.Statement .rsnNone := by
  intro w h; cases h; decide
theorem Laws.WordLength.rsnIncomplete : Laws.WordLength.Statement .rsnIncomplete := by
  intro w h; cases h; decide
theorem Laws.WordLength.rsnBadsentinel : Laws.WordLength.Statement .rsnBadsentinel := by
  intro w h; cases h; decide
theorem Laws.WordLength.rsnChecksummismatch : Laws.WordLength.Statement .rsnChecksummismatch := by
  intro w h; cases h; decide
theorem Laws.WordLength.rsnInvalidreading : Laws.WordLength.Statement .rsnInvalidreading := by
  intro w h; cases h; decide
theorem Laws.WordLength.rsnValueoutofrange : Laws.WordLength.Statement .rsnValueoutofrange := by
  intro w h; cases h; decide
theorem Laws.WordLength.rsnTransporterror : Laws.WordLength.Statement .rsnTransporterror := by
  intro w h; cases h; decide
theorem Laws.WordLength.rsnUnverified : Laws.WordLength.Statement .rsnUnverified := by
  intro w h; cases h; decide

end Sys2Proof
end

