-- ==== Sys2Proof/Tests/Slice0.lean ====
section
/-! SUPPORT. The model's own tests: the well-formedness checks, a hand-written word for every row, single steps with the numbers of
95_test_vectors.md and the rules' own examples, and a state that meets the hypotheses of each statement. -/

namespace Sys2Proof.Tests

open Machine

/-! ### Helpers -/

/-- The next state, if there is one. -/
def nextOf (r : Result) : Option State :=
  match r with
  | .next s => some s
  | _ => none

/-- A field of the next state. -/
def field {α : Type} (f : State → α) (r : Result) : Option α := (nextOf r).map f

theorem exists_next {r : Result} (h : (nextOf r).isSome = true) : ∃ t, r = .next t := by
  cases r with
  | next t => exact ⟨t, rfl⟩
  | fault e => cases h
  | refused e => cases h

/-- A frame buffer with the given characters. -/
def buffer (cs : List Byte) : Memory := Memory.writeList [] 0 cs

/-- The source's example reading `G0262A`. -/
def exampleReading : Memory := [(0, 0x47), (1, 0x30), (2, 0x32), (3, 0x36), (4, 0x32), (5, 0x41)]

/-- The example's outbound frame `AAH0028B5`. -/
def exampleFrame : Memory :=
  [(0, 0x41), (1, 0x41), (2, 0x48), (3, 0x30), (4, 0x30), (5, 0x32), (6, 0x38), (7, 0x42), (8, 0x35)]

/-- The state after reset in the given sequencer state, with the given inputs at the coming edge. -/
def at_ (code : BitVec 4) (ports : Inputs) : State := { State.reset with state := code, ports := ports }

/-- The same with the example reading in the buffer. -/
def withReading (code : BitVec 4) (ports : Inputs) : State := { at_ code ports with rxBuf := exampleReading, rxCnt := 6 }

def ticked : Inputs := tickInput
def rx (b : Byte) : Inputs := { Inputs.idle with rxValid := true, rxData := b }
def exiting : Inputs := { Inputs.idle with exitReq := true }
def faulty : Inputs := { Inputs.idle with xportErr := true }
def resetting : Inputs := { Inputs.idle with rst := true }
def starting : Inputs := { Inputs.idle with startReq := true }

/-! ### Well-formedness: each check refuses an ill-formed term -/

theorem test_wf_example : Config.example95.wf = true := by decide
theorem test_wf_prefix_too_long :
    { Config.example95 with prefixLen := 3, addrPrefix := [0x41, 0x41, 0x41] }.wf = false := by decide
theorem test_wf_prefix_length : { Config.example95 with addrPrefix := [0x41] }.wf = false := by decide
theorem test_wf_prefix_character : { Config.example95 with addrPrefix := [0x41, 0x61] }.wf = false := by decide
theorem test_wf_stop_bits : { Config.example95 with stopBits := 3 }.wf = false := by decide
theorem test_wf_offset : { Config.example95 with averageOffset := 32768 }.wf = false := by decide
theorem test_wf_trigger : { Config.example95 with triggerTemp := -32769 }.wf = false := by decide
theorem test_wf_reference : { Config.example95 with refTempDefault := 32768 }.wf = false := by decide
theorem test_wf_settle : { Config.example95 with settleTicks := 65536 }.wf = false := by decide
theorem test_wf_rx_deadline : { Config.example95 with rxDeadlineTicks := 65536 }.wf = false := by decide
theorem test_wf_ack_deadline : { Config.example95 with ackDeadlineTicks := 65536 }.wf = false := by decide
theorem test_wf_gap : { Config.example95 with txGapTicks := 65536 }.wf = false := by decide
theorem test_wf_hold : { Config.example95 with indHoldTicks := 65536 }.wf = false := by decide
theorem test_wf_tick_period : { Config.example95 with tickPeriodUs := 0 }.wf = false := by decide
theorem test_wf_tick_period_fraction : { Config.example95 with tickPeriodUs := 625, tickPeriodDiv := 6 }.wf = true ∧
    { Config.example95 with tickPeriodDiv := 0 }.wf = false ∧ { Config.example95 with tickPeriodDiv := 2 }.wf = false := by decide
theorem test_gap_too_short : Config.example95.gapLongEnough 1001 1 = false ∧
    Config.example95.gapLongEnough 2001 2 = false ∧ Config.example95.gapLongEnough 2000 2 = true := by decide
theorem test_wf_noise_accepted : Instr.wf (.noise 0x47 false) = false := by decide
theorem test_wf_frame_digit : Instr.wf (.frameInbound 0x47 0x32 0x36 0x32 0x41) = false := by decide
theorem test_wf_frame_checksum : Instr.wf (.frameInbound 0x30 0x32 0x36 0x32 0x42) = false := by decide
theorem test_wf_outbound_digit : Instr.wf (.frameOutboundPadP0 0x30 0x48 0x38 0x42 0x35) = false := by decide
theorem test_wf_outbound_checksum : Instr.wf (.frameOutboundPadP1 0x41 0x30 0x32 0x38 0x42 0x36) = false := by decide
theorem test_wf_outbound_prefix : Instr.wf (.frameOutboundPadP2 0x41 0x58 0x30 0x32 0x38 0x42 0x35) = false := by decide
theorem test_wf_leading_zero : Instr.wf (.frameOutboundUnpadP0D3 0x30 0x38 0x42 0x33) = false := by decide
theorem test_wf_read_length : Instr.wf (.readframe 2 10) = false := by decide
theorem test_wf_unused_code : Instr.wf (.stUnused 10) = false := by decide

/-! ### Decoding: a word written out from its encoding, for every row -/

/-- R60's table, code by code. -/
theorem test_decode_characters :
    decode (.ofChar 0x30) = .ok .ch0 ∧ decode (.ofChar 0x31) = .ok .ch1 ∧ decode (.ofChar 0x32) = .ok .ch2 ∧
    decode (.ofChar 0x33) = .ok .ch3 ∧ decode (.ofChar 0x34) = .ok .ch4 ∧ decode (.ofChar 0x35) = .ok .ch5 ∧
    decode (.ofChar 0x36) = .ok .ch6 ∧ decode (.ofChar 0x37) = .ok .ch7 ∧ decode (.ofChar 0x38) = .ok .ch8 ∧
    decode (.ofChar 0x39) = .ok .ch9 ∧ decode (.ofChar 0x41) = .ok .chA ∧ decode (.ofChar 0x42) = .ok .chB ∧
    decode (.ofChar 0x43) = .ok .chC ∧ decode (.ofChar 0x44) = .ok .chD ∧ decode (.ofChar 0x45) = .ok .chE ∧
    decode (.ofChar 0x46) = .ok .chF ∧ decode (.ofChar 0x47) = .ok .chG ∧ decode (.ofChar 0x48) = .ok .chH ∧
    decode (.ofChar 0x59) = .ok .chY := by decide

/-- R62, R90: the neighbours of the whitelist, and a byte with a framing error. -/
theorem test_decode_noise :
    decode (.ofChar 0x2F) = .ok (.noise 0x2F false) ∧ decode (.ofChar 0x3A) = .ok (.noise 0x3A false) ∧
    decode (.ofChar 0x40) = .ok (.noise 0x40 false) ∧ decode (.ofChar 0x49) = .ok (.noise 0x49 false) ∧
    decode (.ofChar 0x58) = .ok (.noise 0x58 false) ∧ decode (.ofChar 0x5A) = .ok (.noise 0x5A false) ∧
    decode (.ofChar 0x61) = .ok (.noise 0x61 false) ∧ decode ⟨.char8 true, [0x47]⟩ = .ok (.noise 0x47 true) := by decide

/-- R63, R66: `G0262A` and `Y`. -/
theorem test_decode_device_frames :
    decode (.ofFrame [0x47, 0x30, 0x32, 0x36, 0x32, 0x41]) = .ok (.frameInbound 0x30 0x32 0x36 0x32 0x41) ∧
    decode (.ofFrame [0x59]) = .ok .frameAck := by decide

/-- R64: set-point 651 padded, with prefixes of 0, 1 and 2 characters. -/
theorem test_decode_padded_frames :
    decode (.ofFrame [0x48, 0x30, 0x30, 0x32, 0x38, 0x42, 0x35]) = .ok (.frameOutboundPadP0 0x30 0x32 0x38 0x42 0x35) ∧
    decode (.ofFrame [0x41, 0x48, 0x30, 0x30, 0x32, 0x38, 0x42, 0x35]) =
      .ok (.frameOutboundPadP1 0x41 0x30 0x32 0x38 0x42 0x35) ∧
    decode (.ofFrame [0x41, 0x41, 0x48, 0x30, 0x30, 0x32, 0x38, 0x42, 0x35]) =
      .ok (.frameOutboundPadP2 0x41 0x41 0x30 0x32 0x38 0x42 0x35) := by decide

/-- R65: unpadded set-points 0, 16 and 651 (`0`/`0`, `10`/`1`, `28B`/`5`), with prefixes of 0, 1 and 2 characters. -/
theorem test_decode_unpadded_frames :
    decode (.ofFrame [0x48, 0x30, 0x30, 0x30]) = .ok (.frameOutboundUnpadP0D1 0x30 0x30) ∧
    decode (.ofFrame [0x48, 0x30, 0x31, 0x30, 0x31]) = .ok (.frameOutboundUnpadP0D2 0x31 0x30 0x31) ∧
    decode (.ofFrame [0x48, 0x30, 0x32, 0x38, 0x42, 0x35]) = .ok (.frameOutboundUnpadP0D3 0x32 0x38 0x42 0x35) ∧
    decode (.ofFrame [0x41, 0x48, 0x30, 0x30, 0x30]) = .ok (.frameOutboundUnpadP1D1 0x41 0x30 0x30) ∧
    decode (.ofFrame [0x41, 0x48, 0x30, 0x31, 0x30, 0x31]) = .ok (.frameOutboundUnpadP1D2 0x41 0x31 0x30 0x31) ∧
    decode (.ofFrame [0x41, 0x48, 0x30, 0x32, 0x38, 0x42, 0x35]) =
      .ok (.frameOutboundUnpadP1D3 0x41 0x32 0x38 0x42 0x35) ∧
    decode (.ofFrame [0x41, 0x41, 0x48, 0x30, 0x30, 0x30]) = .ok (.frameOutboundUnpadP2D1 0x41 0x41 0x30 0x30) ∧
    decode (.ofFrame [0x41, 0x41, 0x48, 0x30, 0x31, 0x30, 0x31]) =
      .ok (.frameOutboundUnpadP2D2 0x41 0x41 0x31 0x30 0x31) ∧
    decode (.ofFrame [0x41, 0x41, 0x48, 0x30, 0x32, 0x38, 0x42, 0x35]) =
      .ok (.frameOutboundUnpadP2D3 0x41 0x41 0x32 0x38 0x42 0x35) := by decide

/-- R70: the state codes. -/
theorem test_decode_states :
    decode (.ofState 0b0000) = .ok .stIdle ∧ decode (.ofState 0b0001) = .ok .stPowerup ∧
    decode (.ofState 0b0010) = .ok .stAwaitinbound ∧ decode (.ofState 0b0011) = .ok .stValidate ∧
    decode (.ofState 0b0100) = .ok .stCompute ∧ decode (.ofState 0b0101) = .ok .stTransmit ∧
    decode (.ofState 0b0110) = .ok .stAwaitack ∧ decode (.ofState 0b0111) = .ok .stPass ∧
    decode (.ofState 0b1000) = .ok .stFail ∧ decode (.ofState 0b1001) = .ok .stPowerdown ∧
    decode (.ofState 0b1010) = .ok .stShutdown ∧ decode (.ofState 0b1011) = .ok (.stUnused 0b1011) ∧
    decode (.ofState 0b1111) = .ok (.stUnused 0b1111) := by decide

/-- R10, R71, R72: the phase, result and reason codes. -/
theorem test_decode_codes :
    decode (.ofCode .txphase2 0) = .ok .txphEnc ∧ decode (.ofCode .txphase2 1) = .ok .txphChar ∧
    decode (.ofCode .txphase2 2) = .ok .txphGap ∧ decode (.ofCode .result2 0) = .ok .resNone ∧
    decode (.ofCode .result2 1) = .ok .resPending ∧ decode (.ofCode .result2 2) = .ok .resPassed ∧
    decode (.ofCode .result2 3) = .ok .resFailed ∧ decode (.ofCode .reason3 0) = .ok .rsnNone ∧
    decode (.ofCode .reason3 1) = .ok .rsnIncomplete ∧ decode (.ofCode .reason3 2) = .ok .rsnBadsentinel ∧
    decode (.ofCode .reason3 3) = .ok .rsnChecksummismatch ∧ decode (.ofCode .reason3 4) = .ok .rsnInvalidreading ∧
    decode (.ofCode .reason3 5) = .ok .rsnValueoutofrange ∧ decode (.ofCode .reason3 6) = .ok .rsnTransporterror ∧
    decode (.ofCode .reason3 7) = .ok .rsnUnverified := by decide

/-- What the decoder rejects, by name. -/
theorem test_decode_rejects :
    decode ⟨.char8 false, []⟩ = .error .notOneByte ∧ decode ⟨.state4, [0x10]⟩ = .error .upperBitsSet ∧
    decode ⟨.txphase2, [3]⟩ = .error .unusedPhaseCode ∧ decode ⟨.frame, [0x47, 0x30]⟩ = .error .noSuchFrame := by decide

/-- The table's numbers: element `i` of a frame in bits `8i+7 : 8i`. -/
theorem test_table_words :
    decodeTableWord 48 0x413236323047 = some (.frameInbound 0x30 0x32 0x36 0x32 0x41) ∧
    decodeTableWord 8 0x47 = some .chG ∧ decodeTableWord 8 0x05 = some .stTransmit ∧
    decodeTableWord 72 0x354238323030484141 = some (.frameOutboundPadP2 0x41 0x41 0x30 0x32 0x38 0x42 0x35) := by decide

/-! ### Placed words: the very next step runs the row -/

theorem test_step_ch_g :
    field State.rxCnt (step (State.reset.withFetchWord 8 0x47)) = some 1 ∧
    field (fun t => t.rxBuf.read 0) (step (State.reset.withFetchWord 8 0x47)) = some 0x47 := by decide
theorem test_step_frame_inbound :
    field State.reading (step (State.reset.withFetchWord 48 0x413236323047)) = some 610 ∧
    field State.setpoint (step (State.reset.withFetchWord 48 0x413236323047)) = some 651 := by decide
theorem test_step_frame_outbound :
    field State.txLen (step (State.reset.withFetchWord 72 0x354238323030484141)) = some 9 ∧
    (State.reset.withFetchWord 72 0x354238323030484141).txLineActive = false := by decide
theorem test_step_state_word : field State.state (step (State.reset.withFetchWord 8 9)) = some 0 := by decide

/-! ### Codec and calibrator: the rules' own examples -/

/-- R112, R64, R116: `0262` gives `'A'`, `028B` gives `'5'`, all fifteens give `'C'`. -/
theorem test_checksum :
    checksum 0 2 6 2 = 0x41 ∧ checksum 0 2 8 11 = 0x35 ∧ checksum 15 15 15 15 = 0x43 ∧ checksum 0 0 0 0 = 0x30 := by decide
/-- R114, R119: `G0262A` verifies, `G0263A` does not, `G2062A` does; `'G'`, `'H'`, `'Y'` never do. -/
theorem test_verify :
    verifyChecksum (buffer [0x47, 0x30, 0x32, 0x36, 0x32, 0x41]) = true ∧
    verifyChecksum (buffer [0x47, 0x30, 0x32, 0x36, 0x33, 0x41]) = false ∧
    verifyChecksum (buffer [0x47, 0x32, 0x30, 0x36, 0x32, 0x41]) = true ∧
    verifyChecksum (buffer [0x47, 0x47, 0x32, 0x36, 0x32, 0x41]) = false ∧
    verifyChecksum (buffer [0x47, 0x30, 0x32, 0x36, 0x32, 0x59]) = false := by decide
/-- R115, R119: 610, 8290, 0 and 65535. -/
theorem test_reading :
    decodeReading (buffer [0x47, 0x30, 0x32, 0x36, 0x32]) = 610 ∧ decodeReading (buffer [0x47, 0x32, 0x30, 0x36, 0x32]) = 8290 ∧
    decodeReading (buffer [0x47, 0x30, 0x30, 0x30, 0x30]) = 0 ∧
    decodeReading (buffer [0x47, 0x46, 0x46, 0x46, 0x46]) = 65535 := by decide
/-- R116: 651 padded and unpadded, 0 unpadded, 65535, and the two ends of the range. -/
theorem test_encode :
    encodeFrame Config.example95 651 = some [0x41, 0x41, 0x48, 0x30, 0x30, 0x32, 0x38, 0x42, 0x35] ∧
    encodeFrame { Config.example95 with padHex := false } 651 = some [0x41, 0x41, 0x48, 0x30, 0x32, 0x38, 0x42, 0x35] ∧
    encodeFrame { Config.example95 with padHex := false } 0 = some [0x41, 0x41, 0x48, 0x30, 0x30, 0x30] ∧
    encodeFrame Config.example95 65535 = some [0x41, 0x41, 0x48, 0x30, 0x46, 0x46, 0x46, 0x46, 0x43] ∧
    encodeFrame Config.example95 65536 = none ∧ encodeFrame Config.example95 (-1) = none := by decide
/-- R131, R132, R137: 651 in whole units and in sixteenths, a zero reading, a reference equal to the offset. -/
theorem test_setpoint :
    computeSetPoint Config.example95 610 25 = some 651 ∧
    computeSetPoint { Config.example95 with tempFrac := 4, triggerTemp := 1152, refTempDefault := 400 } 610 400 = some 651 ∧
    computeSetPoint Config.example95 0 25 = none ∧ computeSetPoint Config.example95 610 (-671) = none := by decide
/-- R133: every sign combination. -/
theorem test_tdiv :
    tdiv 7 2 = 3 ∧ tdiv (-7) 2 = -3 ∧ tdiv 7 (-2) = -3 ∧ tdiv (-7) (-2) = 3 ∧ tdiv 0 5 = 0 ∧ tdiv (-1) 2 = 0 := by decide

/-! ### The rows, one step each -/

theorem test_ch_y_passes : field State.result (exec .chY (at_ 6 Inputs.idle)) = some 2 := by decide
theorem test_ch_5_unverified :
    field State.reason (exec .ch5 (at_ 6 Inputs.idle)) = some 7 ∧
    field State.ackChar (exec .ch5 (at_ 6 Inputs.idle)) = some 0x35 := by decide
theorem test_ch_h_stored : field (fun t => t.rxBuf.read 0) (exec .chH { at_ 2 Inputs.idle with timer := 3 }) = some 0x48 := by
  decide
theorem test_noise_dropped :
    field State.rxCnt (exec (.noise 0x00 false) { at_ 2 Inputs.idle with timer := 3 }) = some 0 ∧
    field State.rxCnt (exec (.noise 0x47 true) { at_ 2 Inputs.idle with timer := 3 }) = some 0 := by decide
theorem test_frame_ack : field State.state (exec .frameAck (at_ 6 Inputs.idle)) = some 7 := by decide
theorem test_sixth_character_on_the_expiry_step :
    field State.state (exec .chA { at_ 2 ticked with
      rxBuf := [(0, 0x47), (1, 0x30), (2, 0x32), (3, 0x36), (4, 0x32)], rxCnt := 5, timer := 1 }) = some 3 := by decide
theorem test_idle_start :
    field State.state (exec .stIdle (at_ 0 starting)) = some 1 ∧ field State.timer (exec .stIdle (at_ 0 starting)) = some 2 := by
  decide
theorem test_idle_exit_beats_start : field State.state (exec .stIdle (at_ 0 { starting with exitReq := true })) = some 10 := by
  decide
theorem test_powerup_expires : field State.state (exec .stPowerup { at_ 1 ticked with timer := 1 }) = some 2 := by decide
theorem test_powerup_exit_overrides : field State.state (exec .stPowerup { at_ 1 ticked with timer := 1, exitPend := true }) =
    some 9 := by decide
theorem test_awaitinbound_short : field State.reason (exec .stAwaitinbound { at_ 2 ticked with timer := 1 }) = some 1 := by decide
theorem test_awaitinbound_fault_stores_nothing :
    field State.rxCnt (exec .stAwaitinbound { at_ 2 { rx 0x47 with xportErr := true } with timer := 3 }) = some 0 := by decide
theorem test_validate : field State.state (exec .stValidate (withReading 3 Inputs.idle)) = some 4 := by decide
theorem test_validate_mismatch : field State.reason (exec .stValidate (at_ 3 Inputs.idle)) = some 3 := by decide
theorem test_compute : field State.setpoint (exec .stCompute (withReading 4 Inputs.idle)) = some 651 := by decide
theorem test_compute_zero :
    field State.reason (exec .stCompute { at_ 4 Inputs.idle with
      rxBuf := [(0, 0x47), (1, 0x30), (2, 0x30), (3, 0x30), (4, 0x30), (5, 0x30)] }) = some 4 := by decide
theorem test_transmit_out_of_range : field State.reason (exec .stTransmit { at_ 5 Inputs.idle with setpoint := 65536 }) = some 5 := by
  decide
theorem test_txph_enc : field State.txBuf (exec .txphEnc { at_ 5 Inputs.idle with setpoint := 651 }) = some exampleFrame := by
  decide
theorem test_txph_char : field State.txPhase (exec .txphChar (at_ 5 txDoneInput)) = some 2 := by decide
theorem test_txph_gap :
    field State.txIdx (exec .txphGap { at_ 5 ticked with timer := 1, txLen := 9, txIdx := 7 }) = some 8 ∧
    field State.state (exec .txphGap { at_ 5 ticked with timer := 1, txLen := 9, txIdx := 8 }) = some 6 := by decide
theorem test_awaitack_deadline : field State.reason (exec .stAwaitack { at_ 6 ticked with timer := 1 }) = some 7 := by decide
theorem test_pass_log_strobe : field State.logPend (exec .stPass { at_ 7 Inputs.idle with timer := 2, logPend := true }) = some false := by
  decide
theorem test_fail_hold : field State.state (exec .stFail { at_ 8 ticked with timer := 1 }) = some 9 := by decide
theorem test_powerdown :
    field State.state (exec .stPowerdown (withReading 9 Inputs.idle)) = some 0 ∧
    field State.rxBuf (exec .stPowerdown (withReading 9 Inputs.idle)) = some [] := by decide
theorem test_powerdown_exit : field State.state (exec .stPowerdown (at_ 9 exiting)) = some 10 := by decide
theorem test_shutdown_ignores_everything :
    field State.state (exec .stShutdown (at_ 10 starting)) = some 10 ∧
    field State.exitPend (exec .stShutdown (at_ 10 exiting)) = some false := by decide
theorem test_unused_state_reset : field State.state (exec (.stUnused 11) (at_ 11 resetting)) = some 0 := by decide
theorem test_reason_row : field State.reason (exec .rsnTransporterror (at_ 6 Inputs.idle)) = some 6 := by decide
theorem test_result_row : field State.result (exec .resFailed State.reset) = some 3 := by decide
theorem test_settxline : field State.txLineActive (exec (.settxline true) State.reset) = some true := by decide
theorem test_readframe :
    field State.rxCnt (exec (.readframe 6 2) { at_ 2 (rx 0x00) with env := [rx 0x47, ticked, ticked] }) = some 1 := by decide
/-- R48: the byte that ends a read is not there for the rest of its step; R91: outside the windows none is taken. -/
theorem test_readframe_consumes :
    field (fun t => t.ports.rxValid) (exec (.readframe 1 2) (at_ 6 (rx 0x59))) = some false ∧
    nextOf (exec (.readframe 6 2) (at_ 0 (rx 0x47))) = some (at_ 0 (rx 0x47)) := by decide
/-- R93, R165: after a read of `'Y'` the rest of its step passes the attempt, and no later byte is looked at. -/
theorem test_readframe_ends_the_ack_window :
    (nextOf (exec (.readframe 1 9) (at_ 6 (rx 0x59)))).bind (fun t => field State.state (exec .stAwaitack t)) = some 7 ∧
    (nextOf (exec (.readframe 1 9) (at_ 6 (rx 0x59)))).bind
      (fun t => field State.ackChar (exec .stAwaitack { t with ports := rx 0x30 })) = some 0x59 := by decide
theorem test_txchar :
    field State.txPhase (exec .txchar { at_ 5 Inputs.idle with env := [Inputs.idle, txDoneInput] }) = some 2 ∧
    nextOf (exec .txchar (at_ 0 txDoneInput)) = some (at_ 0 txDoneInput) := by decide
/-- R7, U17: a tick count that does not fit `TIMER_W` bits is not loaded. -/
theorem test_reason_row_illegal_configuration :
    nextOf (exec .rsnUnverified { at_ 6 Inputs.idle with cfg := { Config.example95 with indHoldTicks := 65536 } }) = none := by
  decide
/-- R69, R145: high between characters, not driven while inactive. -/
theorem test_idle_line : txPin (at_ 0 Inputs.idle) none = none ∧
    txPin { at_ 5 Inputs.idle with txLineActive := true } none = some true ∧
    txPin { at_ 5 Inputs.idle with txLineActive := true } (some (0x47, 0)) = some false := by decide
/-- R97: the stop bit sampled low is a framing error. -/
theorem test_serial : serialise 1 0x47 = [false, true, true, true, false, false, false, true, false, true] ∧
    deserialise [false, true, true, true, false, false, false, true, false, false] = some (0x47, true) := by decide
/-- R76: element 0 of the record in bits 7:0. -/
theorem test_log_record : (outputs (withReading 8 Inputs.idle)).logRxBuf = 0x413236323047 := by decide

/-! ### States that meet the statements' hypotheses -/

/-- An attempt as `enter(PowerUp)` leaves it, with ticks to come. -/
def settling : State := { enterPowerUp State.reset with ports := ticked, env := List.replicate 8 ticked }

/-- An open inbound window with two ticks left. -/
def receiving : State := { enterAwaitInbound settling with timer := 2 }

/-- An attempt whose frame is being sent. -/
def sending : State :=
  { settling with
    state := 5, rxBuf := exampleReading, rxCnt := 6, reading := 610, readingV := true, refLat := 25, setpoint := 651,
    setpointV := true, txBuf := exampleFrame, txLen := 9, txIdx := 8, txPhase := 1 }

/-- An attempt that waits for its acknowledgement, with one tick left. -/
def awaiting : State := { sending with state := 6, txPhase := 2, txLineActive := false, timer := 1 }

/-- An attempt that has passed. -/
def passed : State := { awaiting with state := 7, result := 2, ackChar := 0x59, ackV := true }

/-- An attempt that has failed. -/
def failed : State := { awaiting with state := 8, result := 3, reason := 7 }

theorem read_zero {m : Memory} {n : Nat} (h : ∀ c ∈ m, c.1 < n) (i : Nat) (hi : n ≤ i) : m.read i = 0 := by
  induction m with
  | nil => rfl
  | cons c rest ih =>
    obtain ⟨a, v⟩ := c
    have ha : ¬ a = i := by have := h (a, v) (by simp); omega
    simp only [Memory.read, ha, if_false]
    exact ih (fun c hc => h c (by simp [hc]))

theorem test_settling_invariant : Invariant settling := by
  constructor <;> first | decide | exact fun i _ => rfl
theorem test_receiving_invariant : Invariant receiving := by
  constructor <;> first | decide | exact fun i _ => rfl
theorem test_sending_invariant : Invariant sending := by
  constructor <;> first | decide | exact fun i hi => read_zero (by decide) i hi
theorem test_awaiting_invariant : Invariant awaiting := by
  constructor <;> first | decide | exact fun i hi => read_zero (by decide) i hi
theorem test_passed_invariant : Invariant passed := by
  constructor <;> first | decide | exact fun i hi => read_zero (by decide) i hi
theorem test_failed_invariant : Invariant failed := by
  constructor <;> first | decide | exact fun i hi => read_zero (by decide) i hi

/-- A configuration that differs from the held one. -/
def otherConfig : Config := { Config.example95 with settleTicks := 7 }

/-- Ten input vectors that disturb nothing. -/
def quiet : List Inputs := List.replicate 10 Inputs.idle

theorem witness_DecodeOfEncodeIsTheRow :
    Instr.wf (.frameOutboundUnpadP1D2 0x47 0x31 0x30 0x31) = true ∧
    isOperation (.frameOutboundUnpadP1D2 0x47 0x31 0x30 0x31) = false := by decide
theorem witness_EncodeOfDecodeIsTheWord : decode (.ofFrame [0x48, 0x30, 0x31, 0x30, 0x31]) = .ok (.frameOutboundUnpadP0D2 0x31 0x30 0x31) := by
  decide
theorem witness_DigitLookupsAreInverse :
    (hexval 0x30).1 = true ∧ (hexval 0x39).1 = true ∧ (hexval 0x41).1 = true ∧ (hexval 0x46).1 = true ∧
    (hexval 0x2F).1 = false ∧ (hexval 0x3A).1 = false ∧ (hexval 0x40).1 = false ∧ (hexval 0x47).1 = false := by decide
theorem witness_WhatTheChecksumDetects :
    verifyChars 0x30 0x32 0x36 0x32 0x41 = true ∧ (0x59 : Byte) ≠ 0x30 ∧ (0x59 : Byte) ≠ 0x32 ∧ (0x59 : Byte) ≠ 0x36 ∧
    (0x59 : Byte) ≠ 0x41 ∧ hexDigits [0x46, 0x46, 0x46, 0x46] = true := by decide
theorem witness_EncodedSetpointVerifiesAndReadsBack :
    Config.example95.wf = true ∧ Config.example95.padHex = true ∧ 65535 ≤ 65535 := by decide
theorem witness_OutboundFrameLayout :
    Config.example95.wf = true ∧ Config.example95.padHex = true ∧
    { Config.example95 with padHex := false }.wf = true ∧ (-1 : Int) < 0 ∧ (65535 : Int) < 65536 ∧ (0 : Int) ≤ 0 ∧
    (65535 : Int) ≤ 65535 := by decide
theorem witness_EncStepIsTheFrameRow :
    Ordinary { sending with txPhase := 0 } ∧
    encodeFrame sending.cfg sending.setpoint = some [0x41, 0x41, 0x48, 0x30, 0x30, 0x32, 0x38, 0x42, 0x35] := by decide
theorem witness_SetpointIsTheTruncatedQuotient :
    Config.example95.wf = true ∧ fitsSigned 16 (-671) = true ∧ fitsSigned 16 25 = true ∧ (610 : BitVec 16) ≠ 0 ∧
    (-671 : Int) = Config.example95.averageOffset * 2 ^ Config.example95.tempFrac ∧
    (25 : Int) ≠ Config.example95.averageOffset * 2 ^ Config.example95.tempFrac ∧ (2 : Int) ≠ 0 ∧
    (-1 : Int).natAbs < (2 : Int).natAbs := by decide
theorem witness_SetpointFitsItsRegister :
    Config.example95.wf = true ∧ computeSetPoint Config.example95 610 25 = some 651 := by decide
theorem witness_SetpointDoesNotDependOnTheFraction :
    Config.example95.wf = true ∧ Config.example95.tempFrac = 0 ∧ fitsSigned 16 25 = true := by decide
theorem witness_ResetEdge :
    (at_ 10 resetting).ports.rst = true ∧ (at_ 5 { resetting with reconfig := some otherConfig }).ports.rst = true ∧
    (at_ 10 resetting).slot = none ∧
    Instr.stShutdown ∈ stateRows.map Prod.fst ++ phaseRows.map Prod.fst ∧ Instr.chY ∈ characterRows.map Prod.fst := by decide
theorem witness_IdleStep : Ordinary (at_ 0 starting) := by decide
theorem witness_PowerUpStep : Ordinary settling := by decide
theorem witness_AwaitInboundStep : Ordinary { receiving with rxCnt := 5 } ∧ (5 : Nat) < 6 := by decide
theorem witness_ValidateStep : Ordinary (withReading 3 exiting) := by decide
theorem witness_ComputeStep :
    Ordinary (withReading 4 Inputs.idle) ∧
    (25 : Int) = (if (withReading 4 Inputs.idle).cfg.useSensor = true then sext 16 0
      else (withReading 4 Inputs.idle).cfg.refTempDefault) := by decide
/-- The reference temperature at the offset: `DivideByZero` (R132), without an exit request. -/
theorem witness_ComputeStep_failure :
    let s := { withReading 4 Inputs.idle with cfg := { Config.example95 with refTempDefault := -671 } }
    Ordinary s ∧ s.cfg.useSensor = false ∧ computeSetPoint s.cfg (decodeReading s.rxBuf) s.cfg.refTempDefault = none ∧
    (s.exitPend || s.ports.exitReq) = false ∧
    field (fun t => ((outputs t).logValid, (outputs t).logRefLat)) (exec .stCompute s) = some (true, -671) := by decide
theorem witness_TransmitStepIsItsPhase :
    Ordinary sending ∧ (Instr.txphEnc, (0 : BitVec 2)) ∈ phaseRows ∧ { sending with txPhase := 0 }.txPhase = 0 ∧
    (Instr.txphChar, (1 : BitVec 2)) ∈ phaseRows ∧ sending.txPhase = 1 ∧
    (Instr.txphGap, (2 : BitVec 2)) ∈ phaseRows ∧ { sending with txPhase := 2 }.txPhase = 2 := by decide
theorem witness_EncStep : Ordinary { sending with txPhase := 0 } := by decide
theorem witness_CharStep : Ordinary { sending with ports := txDoneInput } := by decide
theorem witness_GapStep : Ordinary { sending with txPhase := 2 } := by decide
theorem witness_AwaitAckStep : Ordinary { awaiting with ports := rx 0x59 } ∧ awaiting.ackV = false := by decide
theorem witness_HoldStep : Ordinary passed ∧ Ordinary failed := by decide
theorem witness_PowerDownAndShutdownSteps : Ordinary (at_ 9 exiting) ∧ Ordinary (at_ 10 exiting) := by decide
theorem witness_StopsOutsideTheRules_codes :
    Ordinary (at_ 11 Inputs.idle) ∧ Ordinary { sending with txPhase := 3 } ∧ { sending with txPhase := 3 }.txPhase = 3 := by decide
theorem witness_StopsOutsideTheRules_configuration :
    { receiving with cfg := { Config.example95 with stopBits := 0 } }.cfg.wf = false ∧ receiving.ports.rst = false ∧
    receiving.ports.reconfig = none ∧ { otherConfig with timerW := receiving.cfg.timerW } ≠ receiving.cfg ∧
    receiving.state ≠ 0 ∧ receiving.state ≠ 10 ∧ (at_ 1 { Inputs.idle with reconfig := some otherConfig }).state ≠ 0 ∧
    (at_ 9 { Inputs.idle with reconfig := some otherConfig }).ports.reconfig = some otherConfig := by decide
theorem witness_StopsOutsideTheRules_operations :
    { receiving with cfg := { Config.example95 with indHoldTicks := 65536 } }.cfg.wf = false := by decide
theorem witness_StopsOutsideTheRules_index :
    Ordinary { receiving with rxCnt := 6, ports := rx 0x47 } ∧ (rx 0x47).xportErr = false ∧ (rx 0x47).rxValid = true ∧
    accept (rx 0x47).rxData (rx 0x47).rxFerr = true ∧ 6 ≤ { receiving with rxCnt := 6, ports := rx 0x47 }.rxCnt := by decide
theorem witness_ConfigurationChangeBetweenAttempts :
    (at_ 0 { Inputs.idle with reconfig := some otherConfig }).state = 0 ∧
    (at_ 10 { Inputs.idle with reconfig := some otherConfig }).state = 10 ∧
    (at_ 0 { Inputs.idle with reconfig := some otherConfig }).ports.reconfig = some otherConfig := by decide
theorem witness_CharacterRowsInTheInboundWindow :
    Ordinary receiving ∧ receiving.state = 2 ∧ receiving.rxCnt < 6 ∧ { receiving with rxCnt := 5 }.rxCnt < 6 ∧
    receiving.ports.xportErr = false := by decide
theorem witness_RowsInTheAckWindow :
    Ordinary awaiting ∧ awaiting.state = 6 ∧ awaiting.ackV = false ∧ awaiting.ports.xportErr = false := by decide
theorem witness_CharactersOutsideTheWindows : settling.state ≠ 2 ∧ settling.state ≠ 6 := by decide
theorem witness_NoiseIsNoByte :
    accept 0x00 false = false ∧ accept 0x47 true = false ∧ Ordinary receiving ∧ receiving.state.toNat ≤ 10 ∧
    receiving.txPhase ≠ 3 ∧ Ordinary (at_ 10 Inputs.idle) ∧ (at_ 10 Inputs.idle).state.toNat ≤ 10 := by decide
/-- Five ticks are seen before the sixth character with six on the timer. -/
def readingWindow : State := { receiving with timer := 6 }
theorem witness_InboundFrameRow :
    Instr.wf (.frameInbound 0x30 0x32 0x36 0x32 0x41) = true ∧ readingWindow.state = 2 ∧ readingWindow.rxCnt = 0 ∧
    readingWindow.exitPend = false ∧ UndisturbedFor 8 readingWindow ∧ exitsOf ((listed readingWindow).take 8) = false ∧
    ticksOf ((listed readingWindow).take 5) < readingWindow.timer ∧
    (25 : Int) = (if readingWindow.cfg.useSensor = true then 0 else readingWindow.cfg.refTempDefault) := by decide
theorem witness_OutboundFrameRows :
    outboundFrame (.frameOutboundUnpadP0D1 0x30 0x30) = some [0x48, 0x30, 0x30, 0x30] ∧ Ordinary { sending with txPhase := 0 } ∧
    sending.txBuf.wf = true := by decide
theorem witness_InboundWindowStoresOneElement :
    ∃ t, Ordinary { receiving with ports := rx 0x47 } ∧ receiving.rxBuf.wf = true ∧
      exec .stAwaitinbound { receiving with ports := rx 0x47 } = .next t := by
  obtain ⟨t, ht⟩ := exists_next (r := exec .stAwaitinbound { receiving with ports := rx 0x47 }) (by decide)
  exact ⟨t, by decide, by decide, ht⟩
theorem witness_PureOperations :
    hexDigits [(withReading 4 ticked).rxBuf.read 1, (withReading 4 ticked).rxBuf.read 2, (withReading 4 ticked).rxBuf.read 3,
      (withReading 4 ticked).rxBuf.read 4] = true := by decide
theorem witness_EncodeAndComputeOperations :
    State.reset.cfg.wf = true ∧ (-1 : Int) < 0 ∧ (65535 : Int) < 65536 ∧ (0 : Int) ≤ 65535 := by decide
theorem witness_RxcharOperation :
    receiving.state = 2 ∧ { receiving with rxCnt := 5 }.rxCnt < 6 ∧ awaiting.state = 6 ∧ settling.state ≠ 2 ∧
    settling.state ≠ 6 := by decide
/-- Six characters in seven steps, the last with a tick. -/
def sixCharacters : State := { receiving with
  timer := 10, ports := rx 0x47,
  env := [rx 0x30, rx 0x00, rx 0x32, rx 0x36, rx 0x32, { rx 0x41 with tick := true }] }
/-- The acknowledgement window with its character in, as `RXCHAR` or `READFRAME` leaves it. -/
def answered : State := { awaiting with ackChar := 0x59, ackV := true }
theorem witness_ReadFrameCollectsTheAcceptedCharacters :
    sixCharacters.state = 2 ∧ sixCharacters.rxCnt = 0 ∧ UndisturbedFor 7 sixCharacters ∧
    WindowEndsAt 6 10 7 (listed sixCharacters) ∧ WindowEndsAt 1 10 1 (listed sixCharacters) := by decide
theorem witness_ReadFrameCollectsTheAcceptedCharacters_deadline :
    receiving.state = 2 ∧ receiving.rxCnt = 0 ∧ UndisturbedFor 2 receiving ∧ WindowEndsAt 6 2 2 (listed receiving) ∧ WindowEndsAt 6 0 1 (listed receiving) ∧
    settling.state ≠ 2 ∧ settling.state ≠ 6 := by decide
theorem witness_ReadFrameCollectsTheAcceptedCharacters_complete :
    { receiving with rxCnt := 6 }.state = 2 ∧ 6 ≤ { receiving with rxCnt := 6 }.rxCnt ∧ answered.state = 6 ∧
    answered.ackV = true := by decide
theorem witness_ReadFrameOfOneCharacter :
    awaiting.ackV = false ∧
    { awaiting with ports := rx 0x4E, env := [rx 0x59] }.state = 6 ∧
    UndisturbedFor 2 { awaiting with ports := rx 0x4E, env := [rx 0x59] } ∧
    WindowEndsAt 1 3 2 (listed { awaiting with ports := rx 0x4E, env := [rx 0x59] }) ∧ awaiting.state = 6 ∧
    UndisturbedFor 2 awaiting ∧ WindowEndsAt 1 2 2 (listed awaiting) := by decide
theorem witness_ReadFrameIsTheInboundWindow :
    sixCharacters.slot = none ∧ sixCharacters.state = 2 ∧ sixCharacters.rxCnt = 0 ∧ UndisturbedFor 7 sixCharacters ∧
    WindowEndsAt 6 sixCharacters.timer 7 (listed sixCharacters) ∧ receiving.slot = none ∧ UndisturbedFor 2 receiving ∧
    WindowEndsAt 6 receiving.timer 2 (listed receiving) := by decide
theorem witness_ReadFrameIsTheAckWindow :
    awaiting.slot = none ∧ awaiting.state = 6 ∧ awaiting.ackV = false ∧ UndisturbedFor 1 awaiting ∧
    WindowEndsAt 1 awaiting.timer 1 (listed awaiting) ∧ UndisturbedFor 1 { awaiting with ports := rx 0x59 } ∧
    WindowEndsAt 1 awaiting.timer 1 (listed { awaiting with ports := rx 0x59 }) ∧ Ordinary answered ∧
    answered.ackV = true := by decide
/-- A character answered on its second step, and a gap of one tick whose first step has none. -/
def lateRound : WriteRound := ⟨[Inputs.idle], txDoneInput, [Inputs.idle, ticked]⟩
/-- A character answered at once, and a gap of one step. -/
def promptRound : WriteRound := ⟨[], txDoneInput, [ticked]⟩
/-- The example frame about to be written, with the given inputs to come. -/
def writing (ins : List Inputs) : State := { sending with ports := ins.headD Inputs.idle, env := ins.tail }
theorem witness_TransportFaultEndsAnOperation_reads :
    FaultAfter 0 { receiving with ports := faulty } ∧ receiving.state = 2 ∧ receiving.rxCnt = 0 ∧
    FaultAfter 2 { sixCharacters with env := [rx 0x30, faulty] } ∧
    (∀ m, 0 < m → m ≤ 2 → ¬ WindowOver 6 1 ((listed { sixCharacters with env := [rx 0x30, faulty] }).take m)) ∧
    awaiting.state = 6 ∧ awaiting.ackV = false ∧ FaultAfter 1 { awaiting with env := [faulty] } ∧
    (∀ m, 0 < m → m ≤ 1 → ¬ WindowOver 1 2 ((listed { awaiting with env := [faulty] }).take m)) :=
  ⟨by decide, by decide, by decide, by decide, by intro m h0 h2; interval_cases m <;> decide, by decide, by decide, by decide,
    by intro m h0 h1; interval_cases m; decide⟩
theorem witness_TransportFaultEndsAnOperation_writes :
    FaultAfter 1 (writing [Inputs.idle, faulty]) ∧ (writing [Inputs.idle, faulty]).state = 5 ∧
    (∀ i ∈ (listed (writing [Inputs.idle, faulty])).take 1, i.txDone = false) ∧
    [lateRound].length < sending.txLen ∧ (∀ r ∈ [lateRound], r.legal sending.cfg.txGapTicks) ∧
    FaultAfter 5 (writing (roundInputs [lateRound] ++ [Inputs.idle, faulty])) ∧
    (listed (writing (roundInputs [lateRound] ++ [Inputs.idle, faulty]))).take 5 =
      roundInputs [lateRound] ++ [Inputs.idle] ∧
    FaultAfter 6 (writing (roundInputs [lateRound] ++ ([] ++ txDoneInput :: [Inputs.idle]) ++ [faulty])) ∧
    (listed (writing (roundInputs [lateRound] ++ ([] ++ txDoneInput :: [Inputs.idle]) ++ [faulty]))).take 6 =
      roundInputs [lateRound] ++ ([] ++ txDoneInput :: [Inputs.idle]) ∧
    (∀ m, 0 < m → m ≤ 1 → ticksOf ([Inputs.idle].take m) < sending.cfg.txGapTicks) :=
  ⟨by decide, by decide, by decide, by decide, by decide, by decide, by decide, by decide, by decide,
    by intro m h0 h1; interval_cases m; decide⟩
theorem witness_TxCharWaitsForTxDone :
    (writing [Inputs.idle, Inputs.idle, txDoneInput]).state = 5 ∧
    UndisturbedFor 3 (writing [Inputs.idle, Inputs.idle, txDoneInput]) ∧
    (∀ i ∈ (listed (writing [Inputs.idle, Inputs.idle, txDoneInput])).take 2, i.txDone = false) ∧
    ((listed (writing [Inputs.idle, Inputs.idle, txDoneInput])).getD 2 Inputs.idle).txDone = true ∧ settling.state ≠ 5 := by
  decide
theorem witness_TxCharWaitsForTxDone_unanswered :
    (writing quiet).state = 5 ∧ UndisturbedFor (listed (writing quiet)).length (writing quiet) ∧
    (∀ i ∈ listed (writing quiet), i.txDone = false) := by decide
/-- Two characters to write, the first answered late. -/
def twoCharacters : State := { writing (roundInputs [lateRound, promptRound]) with txLen := 2 }
theorem witness_WriteFrameSendsEveryCharacter :
    twoCharacters.state = 5 ∧ 0 < twoCharacters.txLen ∧ [lateRound, promptRound].length = twoCharacters.txLen ∧
    (∀ r ∈ [lateRound, promptRound], r.legal twoCharacters.cfg.txGapTicks) ∧
    listed twoCharacters = roundInputs [lateRound, promptRound] ++ [] ∧
    UndisturbedFor (roundInputs [lateRound, promptRound]).length twoCharacters ∧ settling.txLen = 0 ∧ settling.state ≠ 5 := by
  decide
theorem witness_WriteFrameSendsEveryCharacter_inProgress :
    [lateRound].length < sending.txLen ∧
    listed (writing (roundInputs [lateRound] ++ [Inputs.idle])) = roundInputs [lateRound] ++ [Inputs.idle] ∧
    UndisturbedFor (listed (writing (roundInputs [lateRound] ++ [Inputs.idle]))).length
      (writing (roundInputs [lateRound] ++ [Inputs.idle])) ∧
    listed (writing [Inputs.idle]) = roundInputs [] ++ [Inputs.idle] := by decide
theorem witness_RowsThatRaiseFailures : State.reset.cfg.wf = true := by decide
theorem witness_SerialCharacterRoundTrip :
    ((1 : Nat) = 1 ∨ (1 : Nat) = 2) ∧ settling.txLineActive = true ∧ receiving.txLineActive = false := by decide
theorem witness_StepRunsTheDecodedRow :
    decode (fetchWord settling) = .ok .stPowerup ∧ settling.slot = none ∧ { receiving with ports := rx 0x47 }.slot = none ∧
    { receiving with ports := rx 0x47 }.ports.rxValid = true ∧
    decode (fetchWord { settling with slot := some (.ofCode .result2 3) }) = .ok .resFailed := by decide
theorem witness_TransitionTable : ∃ t, Invariant awaiting ∧ awaiting.ports.rst = false ∧ step awaiting = .next t := by
  obtain ⟨t, ht⟩ := exists_next (r := step awaiting) (by decide)
  exact ⟨t, test_awaiting_invariant, rfl, ht⟩
theorem witness_ExitRequestIsLatchedAndReplacesTargets :
    ∃ t u, (at_ 0 exiting).slot = none ∧ (at_ 0 exiting).ports.rst = false ∧ step (at_ 0 exiting) = .next t ∧
      (exiting.exitReq = true) ∧ (at_ 10 exiting).slot = none ∧ (at_ 10 exiting).ports.rst = false ∧
      step (at_ 10 exiting) = .next u := by
  obtain ⟨t, ht⟩ := exists_next (r := step (at_ 0 exiting)) (by decide)
  obtain ⟨u, hu⟩ := exists_next (r := step (at_ 10 exiting)) (by decide)
  exact ⟨t, u, rfl, rfl, ht, rfl, rfl, rfl, hu⟩
theorem witness_InputsOutsideTheirStatesAreIgnored :
    settling.slot = none ∧ settling.state ≠ 0 ∧ settling.state ≠ 5 ∧ settling.state ≠ 2 ∧ settling.state ≠ 6 ∧
    settling.state ≠ 4 ∧ sending.slot = none ∧ sending.state = 5 ∧ sending.txPhase = 1 ∧
    { sending with txPhase := 0 }.txPhase = 0 ∧ { sending with txPhase := 2 }.txPhase ≠ 1 ∧
    (at_ 10 exiting).slot = none ∧ (at_ 10 exiting).state = 10 ∧ (withReading 4 ticked).state = 4 ∧
    (withReading 4 ticked).cfg.useSensor = false ∧ (withReading 4 ticked).ports.reconfig = none := by decide
theorem witness_InvariantKeptByEveryStep : ∃ t, Invariant receiving ∧ step receiving = .next t := by
  obtain ⟨t, ht⟩ := exists_next (r := step receiving) (by decide)
  exact ⟨t, test_receiving_invariant, ht⟩
theorem witness_OrdinaryStepsComplete : Invariant sending ∧ Ordinary sending := ⟨test_sending_invariant, by decide⟩
theorem witness_BuffersStayCanonical :
    ∃ t, sending.rxBuf.wf = true ∧ sending.txBuf.wf = true ∧ exec .txphEnc { sending with txPhase := 0 } = .next t := by
  obtain ⟨t, ht⟩ := exists_next (r := exec .txphEnc { sending with txPhase := 0 }) (by decide)
  exact ⟨t, by decide, by decide, ht⟩
theorem witness_OutputsUnderTheInvariant :
    Invariant sending ∧ (outputs sending).txValid = true ∧ Invariant { passed with logPend := true } ∧
      (outputs { passed with logPend := true }).logValid = true := by
  refine ⟨test_sending_invariant, by decide, ?_, by decide⟩
  constructor <;> first | decide | exact fun i hi => read_zero (by decide) i hi
theorem witness_SettleWaitLastsItsTicks :
    settling.slot = none ∧ settling.state = 1 ∧ OrdinaryFor 1 settling ∧ ticksOf ((listed settling).take 0) < settling.timer ∧
    OrdinaryFor 2 settling ∧ ticksOf ((listed settling).take 1) < settling.timer := by decide
theorem witness_ReadWindowsEndByTheirDeadline :
    Invariant receiving ∧ receiving.state = 2 ∧ OrdinaryFor 2 receiving ∧ receiving.timer ≤ ticksOf ((listed receiving).take 2) ∧
    Invariant awaiting ∧ awaiting.state = 6 ∧ OrdinaryFor 1 awaiting ∧ awaiting.timer ≤ ticksOf ((listed awaiting).take 1) :=
  ⟨test_receiving_invariant, by decide, by decide, by decide, test_awaiting_invariant, by decide, by decide, by decide⟩
theorem witness_EveryOutcomePowersDown :
    Invariant passed ∧ passed.state = 7 ∧ OrdinaryFor 2 passed ∧ passed.timer ≤ ticksOf ((listed passed).take 1) ∧
    Invariant failed ∧ failed.state = 8 ∧ OrdinaryFor 2 failed ∧ failed.timer ≤ ticksOf ((listed failed).take 1) :=
  ⟨test_passed_invariant, by decide, by decide, by decide, test_failed_invariant, by decide, by decide, by decide⟩

end Sys2Proof.Tests
end

section
/-! PROOFS. Where a step stops (O27). Every state row and phase row is a clock edge around some rule, and every row that reads the
configuration alone is guarded by `underLegalConfig`; so each stop is proved once, of the shared operation, and not row by row. -/

namespace Sys2Proof.Machine

/-! ### The stops of a clock edge -/

/-- An edge without reset under a held configuration outside R7 is refused, whatever the rule (U17). -/
theorem clockEdge_illegal {rule : State → Result} {s : State} (hr : s.ports.rst = false) (hc : s.ports.reconfig = none)
    (hw : s.cfg.wf = false) : clockEdge rule s = .refused .configOutsideLimits := by
  simp [clockEdge, sampleConfig_held hc, hr, hw]

/-- Without reset, a change of the configuration is not sampled outside `Idle` and `Shutdown` (R52). -/
theorem sampleConfig_changed {s : State} {c : Config} (hr : s.ports.rst = false) (hc : s.ports.reconfig = some c)
    (h0 : s.state ≠ 0) (h10 : s.state ≠ 10) (hne : { c with timerW := s.cfg.timerW } ≠ s.cfg) : sampleConfig s = none := by
  have hidle : s.isIn .idle = false := by simpa [State.isIn, SeqState.code] using h0
  have hshut : s.isIn .shutdown = false := by simpa [State.isIn, SeqState.code] using h10
  simp [sampleConfig, hc, hr, hidle, hshut, hne]

/-- An edge on which the configuration changes inside an attempt is refused, whatever the rule (R52, U18). -/
theorem clockEdge_changed {rule : State → Result} {s : State} {c : Config} (hr : s.ports.rst = false)
    (hc : s.ports.reconfig = some c) (h0 : s.state ≠ 0) (h10 : s.state ≠ 10)
    (hne : { c with timerW := s.cfg.timerW } ≠ s.cfg) : clockEdge rule s = .refused .configChangedInAttempt := by
  simp [clockEdge, sampleConfig_changed hr hc h0 h10 hne]

/-! ### The rows that are such an edge, and the rows under the same guard -/

/-- Every state row and every phase row is one clock edge around a rule. -/
theorem exec_row_is_clockEdge {i : Instr} (hi : i ∈ stateRows.map Prod.fst ++ phaseRows.map Prod.fst) :
    ∃ rule, ∀ s, exec i s = clockEdge rule s := by
  simp only [stateRows, phaseRows, List.map_cons, List.map_nil, List.cons_append, List.nil_append, List.mem_cons,
    List.not_mem_nil, or_false] at hi
  rcases hi with rfl | rfl | rfl | rfl | rfl | rfl | rfl | rfl | rfl | rfl | rfl | rfl | rfl | rfl <;>
    exact ⟨_, fun _ => rfl⟩

/-- The seven reason rows that raise a failure and `DECODEINBOUND` run under a legal configuration only. -/
theorem exec_failureRow_is_underLegalConfig {i : Instr}
    (hi : i ∈ ([.rsnIncomplete, .rsnBadsentinel, .rsnChecksummismatch, .rsnInvalidreading, .rsnValueoutofrange,
      .rsnTransporterror, .rsnUnverified, .decodeinbound] : List Instr)) :
    ∃ op, ∀ s, exec i s = underLegalConfig op s := by
  simp only [List.mem_cons, List.not_mem_nil, or_false] at hi
  rcases hi with rfl | rfl | rfl | rfl | rfl | rfl | rfl | rfl <;> exact ⟨_, fun _ => rfl⟩

/-- `ENCODEOUTBOUND` runs under a legal configuration only. -/
theorem exec_encodeoutbound_is_underLegalConfig (sp : Int) : ∃ op, ∀ s, exec (.encodeoutbound sp) s = underLegalConfig op s :=
  ⟨_, fun _ => rfl⟩

/-- `COMPUTESETPOINT` runs under a legal configuration only. -/
theorem exec_computesetpoint_is_underLegalConfig (raw : BitVec 16) (tref : Int) :
    ∃ op, ∀ s, exec (.computesetpoint raw tref) s = underLegalConfig op s :=
  ⟨_, fun _ => rfl⟩

/-! ### The stops inside a rule -/

/-- Phase code 3 is none of the three phases (U21). -/
theorem ruleTransmit_unusedPhase {s : State} (h : s.txPhase = 3) : ruleTransmit s = .refused .unusedTxPhase := by
  simp [ruleTransmit, h, TxPhase.code]

/-- An accepted byte with the buffer full has no element to go to (R40). -/
theorem rxCharInbound_full {s : State} (h : rxTakes s = true) (hc : 6 ≤ s.rxCnt) :
    rxCharInbound s = .fault .bufferIndex := by
  simp [rxCharInbound, h, writeRx, rxSize, Nat.not_lt.mpr hc]

/-- With no transport failure, a fault of the inbound `RXCHAR` is the fault of the `AwaitInbound` rule (R161). -/
theorem ruleAwaitInbound_fault {s : State} {e : Fault} (hx : s.ports.xportErr = false) (h : rxCharInbound s = .fault e) :
    ruleAwaitInbound s = .fault e := by
  simp [ruleAwaitInbound, hx, h]

/-! ### The statement -/

/-- Settles O27: the stops of the shared clock edge and of the configuration guard, and the two inside a rule. -/
theorem stopsOutsideTheRules : Obligations.StopsOutsideTheRules := by
  refine ⟨fun c s hs => ?unusedState, fun s hs hp => ?unusedPhase, fun s hr hc hw i hi => ?illegalEdge,
    fun s hw => ⟨fun i hi => ?illegalRow, fun sp => ?illegalEncode, fun raw tref => ?illegalCompute⟩,
    fun s c hr hc h0 h10 hne i hi => ?changedInAttempt, fun s hs hx hv ha hc => ?seventhCharacter⟩
  case unusedState => exact clockEdge_ordinary hs
  case unusedPhase =>
    calc exec .stTransmit s = andThen (ruleTransmit (prelude s)) (fun t => .next (advance t)) := stateStep_ordinary hs
      _ = .refused .unusedTxPhase := by rw [ruleTransmit_unusedPhase (s := prelude s) hp, andThen_refused]
  case illegalEdge =>
    obtain ⟨rule, hrule⟩ := exec_row_is_clockEdge hi
    rw [hrule, clockEdge_illegal hr hc hw]
  case illegalRow =>
    obtain ⟨op, hop⟩ := exec_failureRow_is_underLegalConfig hi
    rw [hop, underLegalConfig_illegal hw]
  case illegalEncode =>
    obtain ⟨op, hop⟩ := exec_encodeoutbound_is_underLegalConfig sp
    rw [hop, underLegalConfig_illegal hw]
  case illegalCompute =>
    obtain ⟨op, hop⟩ := exec_computesetpoint_is_underLegalConfig raw tref
    rw [hop, underLegalConfig_illegal hw]
  case changedInAttempt =>
    obtain ⟨rule, hrule⟩ := exec_row_is_clockEdge hi
    rw [hrule, clockEdge_changed hr hc h0 h10 hne]
  case seventhCharacter =>
    have htakes : rxTakes (prelude s) = true := Bool.and_eq_true_iff.mpr ⟨hv, ha⟩
    have hfault : ruleAwaitInbound (prelude s) = .fault .bufferIndex :=
      ruleAwaitInbound_fault hx (rxCharInbound_full htakes hc)
    calc exec .stAwaitinbound s = andThen (ruleAwaitInbound (prelude s)) (fun t => .next (advance t)) :=
          stateStep_ordinary hs
      _ = .fault .bufferIndex := by rw [hfault, andThen_fault]

end Sys2Proof.Machine
end

section
/-! PROOFS. The row a step runs (O46) and the state after reset (O13). -/

namespace Sys2Proof.Machine

/-! ### The row a step runs -/

/-- Every state code is a word of its own (R70). -/
theorem decode_ofState (c : BitVec 4) : decode (OpWord.ofState c) = .ok (decodeState c) := by
  revert c; decide

/-- Codes 11 to 15 decode to the one unused row (R70). -/
theorem decodeState_unused {c : BitVec 4} (h : 11 ≤ c.toNat) : decodeState c = .stUnused c := by
  revert c; decide

/-- The state row of the `state` register runs the rule of that state. -/
theorem exec_decodeState (s : State) : exec (decodeState s.state) s = runState s := by
  rcases runState_eq s with ⟨h, hr⟩ | ⟨h, hr⟩ | ⟨h, hr⟩ | ⟨h, hr⟩ | ⟨h, hr⟩ | ⟨h, hr⟩ | ⟨h, hr⟩ | ⟨h, hr⟩ | ⟨h, hr⟩ |
    ⟨h, hr⟩ | ⟨h, hr⟩ | ⟨h, hr⟩
  on_goal 12 => rw [hr, decodeState_unused h]; rfl
  all_goals rw [hr, h]; rfl

/-- A byte is the word of its number. -/
theorem eq_ofNat_of_toNat {b : Byte} {n : Nat} (h : b.toNat = n) : b = BitVec.ofNat 8 n := by
  rw [← h, BitVec.ofNat_toNat, BitVec.setWidth_eq]

/-- The character row of a byte is the event that presents it (R60, R62). -/
theorem exec_decodeChar (b : Byte) (ferr : Bool) (s : State) : exec (decodeChar b ferr) s = rxEvent b ferr s := by
  cases ferr with
  | true => rfl
  | false =>
    simp only [decodeChar, Bool.false_eq_true, if_false]
    split
    case h_20 => rfl
    all_goals
      rename_i hb
      rw [eq_ofNat_of_toNat hb]
      rfl

/-- Presenting the byte that the transport presents already changes nothing. -/
theorem present_self {s : State} (h : s.ports.rxValid = true) : present s.ports.rxData s.ports.rxFerr s = s := by
  unfold present
  rw [← h]

/-- Taking a word where none is placed changes nothing. -/
theorem clearSlot_self {s : State} (h : s.slot = none) : clearSlot s = s := by
  unfold clearSlot
  rw [← h]

/-- A step runs the row that the fetched word decodes to. -/
theorem step_of_decode {s : State} {i : Instr} (h : decode (fetchWord s) = .ok i) : step s = exec i (clearSlot s) := by
  simp [step, runWord, h]

/-- With no word placed the fetched word decodes to the state row. -/
theorem decode_fetchWord {s : State} (h : s.slot = none) : decode (fetchWord s) = .ok (decodeState s.state) := by
  simp [fetchWord, h, decode_ofState]

/-- With no word placed, a step is the rule of the state (R11). -/
theorem step_eq_runState {s : State} (h : s.slot = none) : step s = runState s := by
  rw [step_of_decode (decode_fetchWord h), clearSlot_self h, exec_decodeState]

/-- Settles O46: with no word placed the fetched word is that of the `state` register, and a presented byte is its character row's
event. -/
theorem stepRunsTheDecodedRow : Obligations.StepRunsTheDecodedRow := by
  refine fun s => ⟨fun i h => step_of_decode h, fun h => ⟨decode_fetchWord h, ?stateRow⟩, fun h hv => ?presentedByte⟩
  case stateRow => rw [step_eq_runState h, exec_decodeState]
  case presentedByte => rw [step_eq_runState h, exec_decodeChar, rxEvent, present_self hv]

/-! ### After reset -/

/-- A buffer with no element listed packs to 0. -/
theorem packBuffer_nil (n : Nat) : packBuffer [] n = 0 := by
  induction n with
  | zero => rfl
  | succ n ih => simp [packBuffer, ih]

/-- Settles O13: the registers by definition, the two buffers of the log record as the empty buffer packed. -/
theorem resetStateAndOutputs : Obligations.ResetStateAndOutputs := by
  refine fun cfg ports env => ⟨rfl, rfl, rfl, rfl, rfl, rfl, rfl, rfl, rfl, ?ports⟩
  case ports =>
    have hrx : BitVec.ofNat 48 (packBuffer [] 6) = 0 := by simp [packBuffer_nil]
    have htx : BitVec.ofNat 72 (packBuffer [] 9) = 0 := by simp [packBuffer_nil]
    simp only [outputs, State.resetWith, hrx, htx]
    rfl

end Sys2Proof.Machine
end

section
/-! PROOFS. Facts the invariant rests on: the widths of the computed numbers (R9, R7, R135) and the characters of an encoded frame (R25). -/

namespace Sys2Proof.Machine

/-! ### Numbers in their registers -/

/-- A sign-extended number lies within its width (R9). -/
theorem sext_bounds (m : Nat) (v : Int) : -2 ^ m ≤ sext (m + 1) v ∧ sext (m + 1) v < 2 ^ m := by
  have hpos : 0 < 2 ^ (m + 1) := Nat.two_pow_pos _
  have hlow := Int.le_bmod (x := v) hpos
  have hhigh := Int.bmod_lt (x := v) hpos
  rw [Nat.pow_succ] at hlow hhigh
  push_cast at hlow hhigh
  unfold sext
  rw [Nat.pow_succ]
  omega

/-- A number within the width fits it. -/
theorem fitsSigned_of_bounds {m : Nat} {v : Int} (hlow : -2 ^ m ≤ v) (hhigh : v < 2 ^ m) : fitsSigned (m + 1) v = true := by
  have heq : Int.bmod v (2 ^ (m + 1)) = v := by
    apply Int.bmod_eq_of_le <;> rw [Nat.pow_succ] <;> push_cast <;> omega
  simpa [fitsSigned, sext] using heq

theorem fitsSigned_sext (n : Nat) (v : Int) : fitsSigned n (sext n v) = true := by
  simp [fitsSigned, sext, Int.bmod_bmod]

theorem fitsSigned_zero (n : Nat) : fitsSigned n 0 = true := by
  simp [fitsSigned, sext]

/-- The numerator needs `17 + F` bits (R135). -/
theorem spNumerator_natAbs_lt (cfg : Config) : (spNumerator cfg).natAbs < 2 ^ (16 + cfg.tempFrac) := by
  obtain ⟨htLow, htHigh⟩ : -2 ^ (15 + cfg.tempFrac) ≤ sext cfg.tempW cfg.triggerTemp ∧
      sext cfg.tempW cfg.triggerTemp < 2 ^ (15 + cfg.tempFrac) := by
    have htw : cfg.tempW = 15 + cfg.tempFrac + 1 := by unfold Config.tempW; omega
    rw [htw]
    exact sext_bounds _ _
  obtain ⟨hoLow, hoHigh⟩ := sext_bounds 15 cfg.averageOffset
  have hunit : (1 : Int) ≤ 2 ^ cfg.tempFrac := by exact_mod_cast Nat.one_le_two_pow
  unfold spNumerator
  rw [pow_add] at htLow htHigh
  zify
  rw [abs_lt, pow_add]
  constructor <;> nlinarith

/-- Every set-point fits the `setpoint` register (R135). -/
theorem computeSetPoint_fits {cfg : Config} {raw : BitVec 16} {tref v : Int} (h : computeSetPoint cfg raw tref = some v) :
    fitsSigned cfg.spW v = true := by
  obtain rfl : tdiv (raw.toNat * spNumerator cfg) (spDivisor cfg tref) = v := by
    unfold computeSetPoint at h
    split at h
    · cases h
    · split at h
      · cases h
      · exact Option.some.inj h
  have hquot : (tdiv (raw.toNat * spNumerator cfg) (spDivisor cfg tref)).natAbs < 2 ^ (32 + cfg.tempFrac) :=
    calc (tdiv (raw.toNat * spNumerator cfg) (spDivisor cfg tref)).natAbs
        ≤ (raw.toNat * spNumerator cfg).natAbs := Int.natAbs_tdiv_le_natAbs _ _
      _ = raw.toNat * (spNumerator cfg).natAbs := by rw [Int.natAbs_mul, Int.natAbs_natCast]
      _ < 2 ^ 16 * 2 ^ (16 + cfg.tempFrac) := Nat.mul_lt_mul'' raw.isLt (spNumerator_natAbs_lt cfg)
      _ = 2 ^ (32 + cfg.tempFrac) := by rw [← Nat.pow_add]; congr 1; omega
  have hspw : cfg.spW = 32 + cfg.tempFrac + 1 := by unfold Config.spW; omega
  zify at hquot
  rw [abs_lt] at hquot
  rw [hspw]
  exact fitsSigned_of_bounds hquot.1.le hquot.2

/-- The tick counts of a configuration fit its timer (R7). -/
structure TicksFit (c : Config) : Prop where
  settle : c.settleTicks < 2 ^ c.timerW
  rxDeadline : c.rxDeadlineTicks < 2 ^ c.timerW
  ackDeadline : c.ackDeadlineTicks < 2 ^ c.timerW
  txGap : c.txGapTicks < 2 ^ c.timerW
  indHold : c.indHoldTicks < 2 ^ c.timerW

theorem ticksFit_of_wf {c : Config} (h : c.wf = true) : TicksFit c := by
  simp only [Config.wf, Config.tickFits, Bool.and_eq_true, decide_eq_true_eq] at h
  constructor <;> simp only [h]

/-! ### Accepted characters -/

theorem accept_of_accept_ferr {b : Byte} {ferr : Bool} (h : accept b ferr = true) : accept b false = true := by
  cases ferr with
  | false => exact h
  | true => simp [accept] at h

/-- Every digit character is in the whitelist (R111, R90). -/
theorem accept_hexchar (v : Nibble) : accept (hexchar v) false = true := by
  revert v; decide

theorem mem_of_mem_dropLeadingZeros {c : Byte} {ds : List Byte} (h : c ∈ dropLeadingZeros ds) : c ∈ ds := by
  induction ds using dropLeadingZeros.induct with
  | case1 => exact h
  | case2 d => exact h
  | case3 d e rest hd ih => exact List.mem_cons_of_mem _ (ih (by simpa [dropLeadingZeros, hd] using h))
  | case4 d e rest hd => simpa [dropLeadingZeros, hd] using h

theorem accept_of_mem_spDigits {c : Byte} {sp : Nat} (h : c ∈ spDigits sp) : accept c false = true := by
  simp only [spDigits, List.mem_cons, List.not_mem_nil, or_false] at h
  rcases h with rfl | rfl | rfl | rfl <;> exact accept_hexchar _

/-- Every character of an encoded frame is in the whitelist (R25, R116). -/
theorem accept_of_mem_encodeFrame {cfg : Config} {sp : Int} {f : List Byte} {c : Byte} (hw : cfg.wf = true)
    (hf : encodeFrame cfg sp = some f) (hc : c ∈ f) : accept c false = true := by
  have hprefix : cfg.addrPrefix.all (fun b => accept b false) = true := by
    simp only [Config.wf, Bool.and_eq_true] at hw
    simp only [hw]
  unfold encodeFrame at hf
  split at hf
  · cases hf
  · cases hf
    simp only [List.mem_append, List.mem_cons, List.not_mem_nil, or_false] at hc
    rcases hc with ((hp | rfl | rfl) | hd) | rfl
    · exact List.all_eq_true.mp hprefix c hp
    · decide
    · decide
    · split at hd
      · exact accept_of_mem_spDigits hd
      · exact accept_of_mem_spDigits (mem_of_mem_dropLeadingZeros hd)
    · exact accept_hexchar _

/-- A frame written from index 0 is what the first elements then read. -/
theorem map_read_writeList {m : Memory} (hm : m.wf = true) (f : List Byte) :
    (List.range f.length).map (m.writeList 0 f).read = f := by
  apply List.ext_getElem
  · simp
  · intro i h1 h2
    simpa using Memory.read_writeList f 0 i m hm h2

end Sys2Proof.Machine
end

section
/-! PROOFS. The invariant holds after reset (O51) and every step keeps it (O50). It is split into the claims about the attempt registers
(`RegistersSound`), proved of each write to them, and the claims that go with the state (`Stage`), proved of each entry action; a rule
is then its writes followed by an entry. -/

namespace Sys2Proof.Machine

/-! ### The invariant as attempt registers and stage -/

/-- The claims of the invariant that speak of the attempt registers alone and not of `state`, the lines, `result` or `log_pend`. They
stay true while a rule has written its registers and has not yet entered the next state. -/
structure RegistersSound (s : State) : Prop where
  slot_free : s.slot = none
  phase_code : s.txPhase ≠ 3
  rx_cnt_le : s.rxCnt ≤ 6
  tx_len_le : s.txLen ≤ 9
  tx_idx_lt : s.txIdx < max s.txLen 1
  timer_lt : s.timer < 2 ^ s.cfg.timerW
  frame_needs_setpoint : 0 < s.txLen → s.setpointV = true
  setpoint_needs_reading : s.setpointV = true → s.readingV = true
  reading_needs_frame : s.readingV = true → s.rxCnt = 6
  reading_is_decoded : s.readingV = true → verifyChecksum s.rxBuf = true ∧ s.reading = decodeReading s.rxBuf
  setpoint_is_computed : s.setpointV = true → computeSetPoint s.cfg s.reading s.refLat = some s.setpoint
  frame_in_range : 0 < s.txLen → 0 ≤ s.setpoint ∧ s.setpoint ≤ 65535
  frame_is_encoded : 0 < s.txLen → encodeFrame s.cfg s.setpoint = some ((List.range s.txLen).map s.txBuf.read)
  rx_form : s.rxBuf.wf = true
  tx_form : s.txBuf.wf = true
  rx_valid : ∀ i, i < s.rxCnt → accept (s.rxBuf.read i) false = true
  rx_invalid : ∀ i, s.rxCnt ≤ i → s.rxBuf.read i = 0
  tx_valid : ∀ i, i < s.txLen → accept (s.txBuf.read i) false = true
  tx_invalid : ∀ i, s.txLen ≤ i → s.txBuf.read i = 0
  ack_valid : s.ackV = true → accept s.ackChar false = true
  ack_invalid : s.ackV = false → s.ackChar = 0
  reading_invalid : s.readingV = false → s.reading = 0 ∧ s.refLat = 0
  setpoint_invalid : s.setpointV = false → s.setpoint = 0
  ref_fits : fitsSigned s.cfg.tempW s.refLat = true
  setpoint_fits : fitsSigned s.cfg.spW s.setpoint = true

/-- Between attempts: no power, no result, nothing recorded (R168, R53). -/
def Resting (s : State) : Prop :=
  s.devPower = false ∧ s.progEn = false ∧ s.txLineActive = false ∧ s.result = 0 ∧ s.logPend = false ∧ cleared s = s

/-- An attempt that has no result yet: powered, `Pending`, no reason, no log strobe. -/
def Underway (s : State) : Prop :=
  s.devPower = true ∧ s.progEn = true ∧ s.result = 1 ∧ s.reason = 0 ∧ s.logPend = false

/-- The six characters of the inbound frame are in, and the acknowledgement is not. -/
def FrameReceived (s : State) : Prop := s.rxCnt = 6 ∧ s.rxBuf.read 0 = 0x47#8 ∧ s.ackV = false

/-- What the invariant claims of `state`, the lines and the progress of the attempt, state by state. -/
inductive Stage (s : State) : Prop where
  | idle (code : s.state = 0) (resting : Resting s)
  | powerUp (code : s.state = 1) (underway : Underway s) (line : s.txLineActive = true) (clear : cleared s = s)
  | awaitInbound (code : s.state = 2) (underway : Underway s) (line : s.txLineActive = false) (room : s.rxCnt < 6)
      (unread : s.readingV = false) (unanswered : s.ackV = false)
  | validate (code : s.state = 3) (underway : Underway s) (line : s.txLineActive = false) (frame : FrameReceived s)
      (unread : s.readingV = false)
  | compute (code : s.state = 4) (underway : Underway s) (line : s.txLineActive = false) (frame : FrameReceived s)
      (unread : s.readingV = false) (verified : verifyChecksum s.rxBuf = true)
  | encode (code : s.state = 5) (phase : s.txPhase = 0) (underway : Underway s) (line : s.txLineActive = false)
      (frame : FrameReceived s) (setpoint : s.setpointV = true) (unloaded : s.txLen = 0)
  | send (code : s.state = 5) (phase : s.txPhase = 1 ∨ s.txPhase = 2) (underway : Underway s) (line : s.txLineActive = true)
      (frame : FrameReceived s) (setpoint : s.setpointV = true) (loaded : 0 < s.txLen)
  | awaitAck (code : s.state = 6) (underway : Underway s) (line : s.txLineActive = false) (frame : FrameReceived s)
      (setpoint : s.setpointV = true) (loaded : 0 < s.txLen)
  | pass (code : s.state = 7) (power : s.devPower = true) (prog : s.progEn = true) (line : s.txLineActive = false)
      (result : s.result = 2) (reason : s.reason = 0)
  | fail (code : s.state = 8) (power : s.devPower = true) (prog : s.progEn = true) (line : s.txLineActive = false)
      (result : s.result = 3) (reason : s.reason ≠ 0)
  | powerDown (code : s.state = 9) (power : s.devPower = false) (prog : s.progEn = false) (line : s.txLineActive = false)
      (log : s.logPend = false) (result : s.result ≠ 0) (exit : s.result = 1 → s.exitPend = true)
      (reason : s.reason ≠ 0 ↔ s.result = 3)
  | shutdown (code : s.state = 10) (resting : Resting s)

/-- The attempt registers of a state of the invariant are sound. -/
theorem Invariant.registers {s : State} (h : Invariant s) : RegistersSound s := { h with }

/-- Sound registers at one of the stages make the invariant. -/
theorem Invariant.of_stage {s : State} (g : Stage s) (d : RegistersSound s) : Invariant s :=
  { d with
    state_code := by cases g <;> simp_all
    power_pair := by cases g <;> simp_all [Resting, Underway]
    powered_iff := by cases g <;> simp_all [Resting, Underway, PoweredCode]
    line_iff := by cases g <;> simp_all [Resting]
    result_none := by cases g <;> simp_all [Resting, Underway]
    result_pending := by cases g <;> simp_all [Underway]
    result_passed := by cases g <;> simp_all
    result_failed := by cases g <;> simp_all
    result_override := by cases g <;> simp_all
    reason_iff := by cases g <;> simp_all [Resting, Underway, cleared_eq_self_iff]
    log_only_at_end := by cases g <;> simp_all [Resting, Underway]
    cleared_outside := by cases g <;> simp_all [Resting]
    cleared_at_start := by cases g <;> simp_all
    window_open := by cases g <;> simp_all
    frame_whole := by cases g <;> simp_all [FrameReceived]
    not_yet_read := by cases g <;> simp_all
    compute_verified := by cases g <;> simp_all
    transmit_has_setpoint := by cases g <;> simp_all
    no_frame_before_enc := by
      cases g with
      | send _ phase => rcases phase with hp | hp <;> simp [hp]
      | _ => simp_all
    frame_exists := by cases g <;> simp_all }

/-! ### What is known of a state of the invariant -/

theorem Invariant.unpowered {s : State} (h : Invariant s) (hs : ¬ PoweredCode s.state) :
    s.devPower = false ∧ s.progEn = false := by
  have hdev : s.devPower = false := by rwa [← Bool.not_eq_true, h.powered_iff]
  exact ⟨hdev, h.power_pair ▸ hdev⟩

theorem Invariant.log_off {s : State} (h : Invariant s) (h7 : s.state ≠ 7) (h8 : s.state ≠ 8) : s.logPend = false := by
  rw [← Bool.not_eq_true]
  exact fun hl => (h.log_only_at_end hl).elim h7 h8

/-- The transmit line is idle in the states that do not hold it. -/
theorem Invariant.line_idle {s : State} (h : Invariant s) (h1 : s.state ≠ 1) (h5 : s.state = 5 → s.txPhase = 0) :
    s.txLineActive = false := by
  rw [← Bool.not_eq_true, h.line_iff]
  rintro (hs | ⟨hs, hp | hp⟩)
  · exact h1 hs
  all_goals simp [h5 hs] at hp

theorem Invariant.resting {s : State} (h : Invariant s) (hs : s.state = 0 ∨ s.state = 10) : Resting s := by
  have hcode : ¬ PoweredCode s.state ∧ s.state ≠ 1 ∧ s.state ≠ 5 ∧ s.state ≠ 7 ∧ s.state ≠ 8 := by
    rcases hs with hs | hs <;> simp [hs, PoweredCode]
  obtain ⟨hoff, h1, h5, h7, h8⟩ := hcode
  obtain ⟨hdev, hprog⟩ := h.unpowered hoff
  exact ⟨hdev, hprog, h.line_idle h1 (fun hs5 => absurd hs5 h5), h.result_none.mpr hs, h.log_off h7 h8, h.cleared_outside hs⟩

theorem Invariant.underway {s : State} (h : Invariant s) (hs : 1 ≤ s.state.toNat ∧ s.state.toNat ≤ 6) : Underway s := by
  have hdev : s.devPower = true := h.powered_iff.mpr ⟨hs.1, by omega⟩
  have hresult : s.result = 1 := h.result_pending hs
  have hreason : s.reason = 0 := by
    by_contra hr
    simpa [hresult] using h.reason_iff.mp hr
  have hlog : s.logPend = false := h.log_off (fun h7 => by simp [h7] at hs) (fun h8 => by simp [h8] at hs)
  exact ⟨hdev, h.power_pair ▸ hdev, hresult, hreason, hlog⟩

/-! ### Sound registers after each write to them -/

theorem RegistersSound.after_dec {s : State} (d : RegistersSound s) : RegistersSound (dec s) :=
  { d with
    timer_lt := by
      have := d.timer_lt
      simp only [dec_timer, dec_cfg]
      split <;> omega }

/-- An accepted byte stored at the count (R92). -/
theorem RegistersSound.store_character {s : State} {b : Byte} (d : RegistersSound s) (hb : accept b false = true)
    (hroom : s.rxCnt < 6) (hunread : s.readingV = false) : RegistersSound (withCharacter b s) :=
  { d with
    rx_cnt_le := hroom
    reading_needs_frame := fun hr => absurd hr (by simp [withCharacter, hunread])
    reading_is_decoded := fun hr => absurd hr (by simp [withCharacter, hunread])
    rx_form := Memory.write_wf _ _ _ d.rx_form
    rx_valid := by
      intro i hi
      rcases Nat.lt_succ_iff_lt_or_eq.mp hi with hlt | rfl
      · simpa [withCharacter, Memory.read_write_other b (Nat.ne_of_gt hlt)] using d.rx_valid i hlt
      · simpa [withCharacter, d.rx_form] using hb
    rx_invalid := by
      intro i hi
      have hi' : s.rxCnt < i := hi
      simpa [withCharacter, Memory.read_write_other b (Nat.ne_of_lt hi')] using d.rx_invalid i hi'.le }

/-- An accepted byte recorded as the acknowledgement (R92). -/
theorem RegistersSound.record_ack {s : State} {b : Byte} (d : RegistersSound s) (hb : accept b false = true) :
    RegistersSound { s with ackChar := b, ackV := true } :=
  { d with
    ack_valid := fun _ => hb
    ack_invalid := fun hv => absurd hv (by simp) }

/-- The reading of a verified frame and the reference temperature recorded (R163). -/
theorem RegistersSound.record_reading {s : State} (d : RegistersSound s) (hcnt : s.rxCnt = 6)
    (hver : verifyChecksum s.rxBuf = true) (hsp : s.setpointV = false) : RegistersSound (recordReading s) :=
  { d with
    setpoint_needs_reading := fun _ => rfl
    reading_needs_frame := fun _ => hcnt
    reading_is_decoded := fun _ => ⟨hver, rfl⟩
    setpoint_is_computed := fun hv => absurd hv (by simp [hsp])
    reading_invalid := fun hv => absurd hv (by simp)
    ref_fits := fitsSigned_sext _ _ }

/-- The computed set-point recorded (R163). -/
theorem RegistersSound.record_setpoint {s : State} {v : Int} (d : RegistersSound s) (hread : s.readingV = true)
    (hlen : s.txLen = 0) (hv : computeSetPoint s.cfg s.reading s.refLat = some v) :
    RegistersSound { s with setpoint := v, setpointV := true } :=
  { d with
    frame_needs_setpoint := fun _ => rfl
    setpoint_needs_reading := fun _ => hread
    setpoint_is_computed := fun _ => hv
    frame_in_range := fun hl => absurd hl (by simp [hlen])
    frame_is_encoded := fun hl => absurd hl (by simp [hlen])
    setpoint_invalid := fun hsv => absurd hsv (by simp)
    setpoint_fits := computeSetPoint_fits hv }

/-- The encoded frame loaded into the empty buffer (R164, phase `ENC`). -/
theorem RegistersSound.load_frame {s : State} {f : List Byte} (d : RegistersSound s) (hw : s.cfg.wf = true)
    (hsp : s.setpointV = true) (hlen : s.txLen = 0) (hf : encodeFrame s.cfg s.setpoint = some f) :
    RegistersSound (withFrame f s) := by
  obtain ⟨hlow, hhigh, -, hmax⟩ := encodeFrame_length hw hf
  exact
  { d with
    phase_code := by simp [withFrame]
    tx_len_le := hmax
    tx_idx_lt := by simp [withFrame]
    frame_needs_setpoint := fun _ => hsp
    frame_in_range := fun _ => ⟨hlow, hhigh⟩
    frame_is_encoded := fun _ => hf.trans (congrArg some (map_read_writeList d.tx_form f).symm)
    tx_form := Memory.writeList_wf f 0 _ d.tx_form
    tx_valid := by
      intro i hi
      have hread := Memory.read_writeList f 0 i s.txBuf d.tx_form hi
      rw [Nat.zero_add] at hread
      exact hread ▸ accept_of_mem_encodeFrame hw hf (List.getElem_mem hi)
    tx_invalid := by
      intro i hi
      have hother := Memory.read_writeList_other f 0 i s.txBuf (.inr (by simpa [withFrame] using hi))
      exact hother.trans (d.tx_invalid i (by omega)) }

/-- Registers at their reset values, under any configuration. -/
theorem registersSound_of_cleared {s : State} (hslot : s.slot = none) (htimer : s.timer < 2 ^ s.cfg.timerW)
    (hclear : cleared s = s) : RegistersSound s := by
  obtain ⟨hrx, hcnt, hack, hackV, hread, hreadV, href, hsp, hspV, htx, hlen, hidx, hphase, -⟩ := (cleared_eq_self_iff s).mp hclear
  constructor <;> simp [*, fitsSigned_zero, Memory.wf_nil]

/-! ### The entry actions reach a state of the invariant -/

theorem resetRegs_invariant {s : State} (hslot : s.slot = none) : Invariant (resetRegs s) :=
  .of_stage (.idle rfl ⟨rfl, rfl, rfl, rfl, rfl, rfl⟩)
    (registersSound_of_cleared hslot (Nat.two_pow_pos _) rfl)

theorem enterPowerUp_invariant {s : State} (hw : s.cfg.wf = true) (hslot : s.slot = none) (hlog : s.logPend = false) :
    Invariant (enterPowerUp s) :=
  .of_stage (.powerUp rfl ⟨rfl, rfl, rfl, rfl, hlog⟩ rfl rfl)
    (registersSound_of_cleared hslot (ticksFit_of_wf hw).settle rfl)

theorem enterAwaitInbound_invariant {s : State} (hw : s.cfg.wf = true) (d : RegistersSound s) (u : Underway s)
    (hroom : s.rxCnt < 6) (hunread : s.readingV = false) (hack : s.ackV = false) : Invariant (enterAwaitInbound s) :=
  .of_stage (.awaitInbound rfl u rfl hroom hunread hack) { d with timer_lt := (ticksFit_of_wf hw).rxDeadline }

theorem enterValidate_invariant {s : State} (d : RegistersSound s) (u : Underway s) (hline : s.txLineActive = false)
    (hframe : FrameReceived s) (hunread : s.readingV = false) : Invariant (enterValidate s) :=
  .of_stage (.validate rfl u hline hframe hunread) { d with }

theorem enterCompute_invariant {s : State} (d : RegistersSound s) (u : Underway s) (hline : s.txLineActive = false)
    (hframe : FrameReceived s) (hunread : s.readingV = false) (hver : verifyChecksum s.rxBuf = true) :
    Invariant (enterCompute s) :=
  .of_stage (.compute rfl u hline hframe hunread hver) { d with }

theorem enterTransmit_invariant {s : State} (d : RegistersSound s) (u : Underway s) (hline : s.txLineActive = false)
    (hframe : FrameReceived s) (hsp : s.setpointV = true) (hlen : s.txLen = 0) : Invariant (enterTransmit s) :=
  .of_stage (.encode rfl rfl u hline hframe hsp hlen) { d with phase_code := by simp [TxPhase.code] }

theorem enterAwaitAck_invariant {s : State} (hw : s.cfg.wf = true) (d : RegistersSound s) (u : Underway s)
    (hframe : FrameReceived s) (hsp : s.setpointV = true) (hlen : 0 < s.txLen) : Invariant (enterAwaitAck s) :=
  .of_stage (.awaitAck rfl u rfl hframe hsp hlen) { d with timer_lt := (ticksFit_of_wf hw).ackDeadline }

theorem enterPass_invariant {s : State} (hw : s.cfg.wf = true) (d : RegistersSound s) (u : Underway s) :
    Invariant (enterPass s) := by
  obtain ⟨hdev, hprog, -, hreason, -⟩ := u
  exact .of_stage (.pass rfl hdev hprog rfl rfl hreason) { d with timer_lt := (ticksFit_of_wf hw).indHold }

theorem Reason.code_ne_zero (r : Reason) : r.code ≠ 0 := by
  cases r <;> decide

theorem enterFail_invariant {s : State} (r : Reason) (hw : s.cfg.wf = true) (d : RegistersSound s) (u : Underway s) :
    Invariant (enterFail r s) := by
  obtain ⟨hdev, hprog, -⟩ := u
  exact .of_stage (.fail rfl hdev hprog rfl rfl (Reason.code_ne_zero r))
    { d with timer_lt := (ticksFit_of_wf hw).indHold }

/-- `PowerDown` is entered with whatever result there is, but with `Pending` only by the exit override (R30 (f)). -/
theorem enterPowerDown_invariant {s : State} (d : RegistersSound s) (hresult : s.result ≠ 0)
    (hexit : s.result = 1 → s.exitPend = true) (hreason : s.reason ≠ 0 ↔ s.result = 3) : Invariant (enterPowerDown s) :=
  .of_stage (.powerDown rfl rfl rfl rfl rfl hresult hexit hreason) { d with }

theorem finishAttempt_invariant {s : State} (d : RegistersSound s) (hdev : s.devPower = false) (hprog : s.progEn = false)
    (hline : s.txLineActive = false) (hlog : s.logPend = false) : Invariant (finishAttempt s) := by
  have hrest : Resting (finishAttempt s) := ⟨hdev, hprog, hline, rfl, hlog, rfl⟩
  have hregs : RegistersSound (finishAttempt s) := registersSound_of_cleared d.slot_free d.timer_lt rfl
  cases hexit : exitNow s with
  | true => exact .of_stage (.shutdown (by simp [finishAttempt, hexit, SeqState.code]) hrest) hregs
  | false => exact .of_stage (.idle (by simp [finishAttempt, hexit, SeqState.code]) hrest) hregs

/-! ### `goto` -/

/-- An exit request of this step is in the latch, as after the prelude (R156). -/
def ExitLatched (s : State) : Prop := exitNow s = true → s.exitPend = true

/-- From an attempt under way `goto` reaches a state of the invariant when its target is one. -/
theorem goto_invariant {enterY : State → State} {s : State} (he : ExitLatched s) (d : RegistersSound s) (u : Underway s)
    (htarget : Invariant (enterY s)) : Invariant (goto enterY s) := by
  cases hexit : exitNow s with
  | false => exact goto_enter enterY hexit ▸ htarget
  | true =>
    obtain ⟨-, -, hresult, hreason, -⟩ := u
    exact goto_exit enterY hexit ▸
      enterPowerDown_invariant d (by simp [hresult]) (fun _ => he hexit) (by simp [hresult, hreason])

theorem raiseFail_invariant {s : State} (r : Reason) (hw : s.cfg.wf = true) (he : ExitLatched s) (d : RegistersSound s)
    (u : Underway s) : Invariant (raiseFail r s) :=
  goto_invariant he d u (enterFail_invariant r hw d u)

/-! ### Writes that leave the state where it is -/

theorem Invariant.after_advance {s : State} (h : Invariant s) : Invariant (advance s) :=
  { h with
    cleared_outside := fun hs => congrArg advance (h.cleared_outside hs)
    cleared_at_start := fun hs => congrArg advance (h.cleared_at_start hs) }

theorem Invariant.after_prelude {s : State} (h : Invariant s) : Invariant (prelude s) :=
  { h with
    result_override := fun hs hr => by simp [exitNow, h.result_override hs hr]
    cleared_outside := fun hs => congrArg prelude (h.cleared_outside hs)
    cleared_at_start := fun hs => congrArg prelude (h.cleared_at_start hs) }

theorem Invariant.after_dec {s : State} (h : Invariant s) : Invariant (dec s) :=
  { h with
    timer_lt := h.registers.after_dec.timer_lt
    cleared_outside := fun hs => congrArg dec (h.cleared_outside hs)
    cleared_at_start := fun hs => congrArg dec (h.cleared_at_start hs) }

/-- A configuration taken where nothing of an attempt is recorded (R52): no register depends on it. -/
theorem Invariant.after_newConfig {s : State} {c : Config} (h : Invariant s) (hs : s.state = 0 ∨ s.state = 10)
    (htimer : c.timerW = s.cfg.timerW) : Invariant { s with cfg := c } := by
  obtain ⟨hdev, hprog, hline, hresult, hlog, hclear⟩ := h.resting hs
  have hclear' : cleared { s with cfg := c } = { s with cfg := c } := congrArg (fun t : State => { t with cfg := c }) hclear
  have hrest : Resting { s with cfg := c } := ⟨hdev, hprog, hline, hresult, hlog, hclear'⟩
  have hregs : RegistersSound { s with cfg := c } :=
    registersSound_of_cleared h.slot_free (htimer ▸ h.timer_lt) hclear'
  rcases hs with hs | hs
  · exact .of_stage (.idle hs hrest) hregs
  · exact .of_stage (.shutdown hs hrest) hregs

/-- Without reset, the sampled configuration keeps the invariant: it is the held one, or it is taken between attempts. -/
theorem Invariant.after_sampleConfig {s t : State} (h : Invariant s) (hr : s.ports.rst = false)
    (ht : sampleConfig s = some t) : Invariant t := by
  obtain ⟨hcfg, htimer, hwhen⟩ := sampleConfig_cases ht
  rw [hcfg]
  rcases hwhen with heq | hrst | hs
  · rw [heq]; exact h
  · simp [hr] at hrst
  · exact h.after_newConfig hs htimer

/-! ### The rules keep the invariant

Each rule runs on a state of the invariant, after the prelude and under a legal configuration. -/

section Rules

variable {s t : State}

/-- R159. -/
theorem ruleIdle_invariant (hw : s.cfg.wf = true) (h : Invariant s) (hs : s.state = 0) (ht : ruleIdle s = .next t) :
    Invariant t := by
  obtain ⟨hdev, hprog, hline, hresult, hlog, hclear⟩ := h.resting (.inl hs)
  unfold ruleIdle at ht
  split at ht
  · cases ht
    have hclear' := congrArg (fun u : State => { u with state := SeqState.shutdown.code }) hclear
    exact .of_stage (.shutdown rfl ⟨hdev, hprog, hline, hresult, hlog, hclear'⟩) { h.registers with }
  · split at ht
    · cases ht
      exact enterPowerUp_invariant hw h.slot_free hlog
    · cases ht
      exact h

/-- R160. -/
theorem rulePowerUp_invariant (hw : s.cfg.wf = true) (he : ExitLatched s) (h : Invariant s) (hs : s.state = 1)
    (ht : rulePowerUp s = .next t) : Invariant t := by
  obtain ⟨-, hcnt, -, hack, -, hread, -⟩ := (cleared_eq_self_iff s).mp (h.cleared_at_start hs)
  have u : Underway s := h.underway (by simp [hs])
  have hopen : Invariant (enterAwaitInbound (dec s)) :=
    enterAwaitInbound_invariant hw h.registers.after_dec u (by simp [hcnt]) hread hack
  unfold rulePowerUp waitThen at ht
  cases ht
  split
  · exact goto_invariant he h.registers.after_dec u hopen
  · exact h.after_dec

/-- R113: the end of the inbound window. -/
theorem decodeInbound_invariant (hw : s.cfg.wf = true) (he : ExitLatched s) (d : RegistersSound s) (u : Underway s)
    (hline : s.txLineActive = false) (hunread : s.readingV = false) (hack : s.ackV = false) :
    Invariant (decodeInbound s) := by
  rcases decodeInbound_cases s with ⟨-, heq⟩ | ⟨-, -, heq⟩ | ⟨hcnt, hsentinel, heq⟩ <;> rw [heq]
  · exact raiseFail_invariant _ hw he d u
  · exact raiseFail_invariant _ hw he d u
  · have hframe : FrameReceived s := ⟨le_antisymm d.rx_cnt_le hcnt, hsentinel, hack⟩
    exact goto_invariant he d u (enterValidate_invariant d u hline hframe hunread)

/-- R161, once the byte of the step is in: the window ends or stays open. -/
theorem inboundWindow_invariant (hw : s.cfg.wf = true) (he : ExitLatched s) (hs : s.state = 2) (d : RegistersSound s)
    (u : Underway s) (hline : s.txLineActive = false) (hunread : s.readingV = false) (hack : s.ackV = false) :
    Invariant (if (dec s).rxCnt = 6 ∨ expired (dec s) = true then decodeInbound (dec s) else dec s) := by
  split
  · exact decodeInbound_invariant (s := dec s) hw he d.after_dec u hline hunread hack
  · rename_i hopen
    have hroom : s.rxCnt < 6 := lt_of_le_of_ne d.rx_cnt_le (fun h6 => hopen (.inl h6))
    exact .of_stage (.awaitInbound hs u hline hroom hunread hack) d.after_dec

/-- R161. -/
theorem ruleAwaitInbound_invariant (hw : s.cfg.wf = true) (he : ExitLatched s) (h : Invariant s) (hs : s.state = 2)
    (ht : ruleAwaitInbound s = .next t) : Invariant t := by
  have u : Underway s := h.underway (by simp [hs])
  have hline : s.txLineActive = false := h.line_idle (by simp [hs]) (by simp [hs])
  obtain ⟨-, hunread, hack⟩ := h.window_open hs
  unfold ruleAwaitInbound at ht
  split at ht
  · cases ht
    exact raiseFail_invariant _ hw he h.registers u
  · obtain ⟨v, hv, hend⟩ := andThen_eq_next ht
    rw [← apply_ite Host.Outcome.next] at hend
    cases hend
    rcases rxCharInbound_cases hv with ⟨-, rfl⟩ | ⟨htakes, hroom, rfl⟩
    · exact inboundWindow_invariant hw he hs h.registers u hline hunread hack
    · have haccept := accept_of_accept_ferr (Bool.and_eq_true_iff.mp htakes).2
      exact inboundWindow_invariant (s := withCharacter s.ports.rxData s) hw he hs
        (h.registers.store_character haccept hroom hunread) u hline hunread hack

/-- R162. -/
theorem ruleValidate_invariant (hw : s.cfg.wf = true) (he : ExitLatched s) (h : Invariant s) (hs : s.state = 3)
    (ht : ruleValidate s = .next t) : Invariant t := by
  have u : Underway s := h.underway (by simp [hs])
  have hline : s.txLineActive = false := h.line_idle (by simp [hs]) (by simp [hs])
  unfold ruleValidate at ht
  split at ht
  · rename_i hver
    cases ht
    exact goto_invariant he h.registers u
      (enterCompute_invariant h.registers u hline (h.frame_whole (by simp [hs])) (h.not_yet_read (.inl hs)) hver)
  · cases ht
    exact raiseFail_invariant _ hw he h.registers u

/-- Without a reading there is no set-point and no frame (R30 (g)). -/
theorem Invariant.nothing_computed (h : Invariant s) (hunread : s.readingV = false) : s.setpointV = false ∧ s.txLen = 0 := by
  have hsp : s.setpointV = false := by
    rw [← Bool.not_eq_true]
    intro hv
    simp [h.setpoint_needs_reading hv] at hunread
  refine ⟨hsp, Nat.eq_zero_of_not_pos fun hlen => ?_⟩
  simp [h.frame_needs_setpoint hlen] at hsp

/-- R163. -/
theorem ruleCompute_invariant (hw : s.cfg.wf = true) (he : ExitLatched s) (h : Invariant s) (hs : s.state = 4)
    (ht : ruleCompute s = .next t) : Invariant t := by
  have u : Underway s := h.underway (by simp [hs])
  have hline : s.txLineActive = false := h.line_idle (by simp [hs]) (by simp [hs])
  have hframe : FrameReceived s := h.frame_whole (by simp [hs])
  obtain ⟨hsp, hlen⟩ := h.nothing_computed (h.not_yet_read (.inr hs))
  have d : RegistersSound (recordReading s) := h.registers.record_reading hframe.1 (h.compute_verified hs) hsp
  unfold ruleCompute at ht
  cases ht
  cases hq : computeSetPoint s.cfg (decodeReading s.rxBuf) (refTemperature s) with
  | none => exact raiseFail_invariant (s := recordReading s) _ hw he d u
  | some v =>
    have d' := d.record_setpoint rfl hlen hq
    exact goto_invariant (s := { recordReading s with setpoint := v, setpointV := true }) he d' u
      (enterTransmit_invariant d' u hline hframe rfl hlen)

/-- R164, phase `ENC`. -/
theorem ruleEnc_invariant (hw : s.cfg.wf = true) (he : ExitLatched s) (h : Invariant s) (hs : s.state = 5)
    (hp : s.txPhase = 0) (ht : ruleEnc s = .next t) : Invariant t := by
  have u : Underway s := h.underway (by simp [hs])
  have hsp : s.setpointV = true := h.transmit_has_setpoint (.inl hs)
  unfold ruleEnc at ht
  split at ht
  · cases ht
    exact raiseFail_invariant _ hw he h.registers u
  · rename_i f hf
    obtain ⟨-, -, hmin, -⟩ := encodeFrame_length hw hf
    obtain rfl : t = withFrame f s := loadFrame_eq_next ht
    exact .of_stage (.send hs (.inl rfl) u rfl (h.frame_whole (by simp [hs])) hsp (Nat.lt_of_lt_of_le (by decide) hmin))
      (h.registers.load_frame hw hsp (h.no_frame_before_enc hs hp) hf)

/-- Past `ENC` a frame is there and the line is held (R164, R30 (d)). -/
theorem Invariant.sending (h : Invariant s) (hs : s.state = 5) (hp : s.txPhase = 1 ∨ s.txPhase = 2) :
    s.txLineActive = true ∧ s.txIdx < s.txLen := by
  have hne : s.txPhase ≠ 0 := by rcases hp with hp | hp <;> simp [hp]
  have hlen : 0 < s.txLen := h.frame_exists (.inl ⟨hs, hne⟩)
  have hidx := h.tx_idx_lt
  exact ⟨h.line_iff.mpr (.inr ⟨hs, hp⟩), by omega⟩

/-- A transmission moved on within its frame (R164, phases `CHAR` and `GAP`). -/
theorem Invariant.move_in_frame {timer idx : Nat} {phase : BitVec 2} (h : Invariant s) (hs : s.state = 5)
    (hp : s.txPhase = 1 ∨ s.txPhase = 2) (htimer : timer < 2 ^ s.cfg.timerW) (hidx : idx < s.txLen)
    (hphase : phase = 1 ∨ phase = 2) : Invariant { s with timer := timer, txIdx := idx, txPhase := phase } := by
  have hline : s.txLineActive = true := (h.sending hs hp).1
  have hsp : s.setpointV = true := h.transmit_has_setpoint (.inl hs)
  exact .of_stage
    (.send hs hphase (h.underway (by simp [hs])) hline (h.frame_whole (by simp [hs])) hsp (Nat.zero_lt_of_lt hidx))
    { h.registers with
      phase_code := by rcases hphase with rfl | rfl <;> simp
      tx_idx_lt := lt_max_of_lt_left hidx
      timer_lt := htimer }

/-- R164, phase `CHAR`. -/
theorem ruleChar_invariant (hw : s.cfg.wf = true) (he : ExitLatched s) (h : Invariant s) (hs : s.state = 5)
    (hp : s.txPhase = 1) (ht : ruleChar s = .next t) : Invariant t := by
  unfold ruleChar at ht
  split_ifs at ht <;> cases ht
  · exact raiseFail_invariant _ hw he h.registers (h.underway (by simp [hs]))
  · exact h.move_in_frame hs (.inl hp) (ticksFit_of_wf hw).txGap (h.sending hs (.inl hp)).2 (.inr rfl)
  · exact h

/-- R164, phase `GAP`. -/
theorem ruleGap_invariant (hw : s.cfg.wf = true) (he : ExitLatched s) (h : Invariant s) (hs : s.state = 5)
    (hp : s.txPhase = 2) (ht : ruleGap s = .next t) : Invariant t := by
  have u : Underway s := h.underway (by simp [hs])
  have hidx : s.txIdx < s.txLen := (h.sending hs (.inr hp)).2
  have d : RegistersSound (dec s) := h.registers.after_dec
  unfold ruleGap at ht
  split_ifs at ht with hfault hexpired hlast <;> cases ht
  · exact raiseFail_invariant _ hw he h.registers u
  · have hsp : s.setpointV = true := h.transmit_has_setpoint (.inl hs)
    exact goto_invariant he d u
      (enterAwaitAck_invariant hw d u (h.frame_whole (by simp [hs])) hsp (Nat.zero_lt_of_lt hidx))
  · have hnext : s.txIdx + 1 < s.txLen := lt_of_le_of_ne hidx hlast
    exact h.after_dec.move_in_frame hs (.inr hp) d.timer_lt hnext (.inl rfl)
  · exact h.after_dec

/-- R164. -/
theorem ruleTransmit_invariant (hw : s.cfg.wf = true) (he : ExitLatched s) (h : Invariant s) (hs : s.state = 5)
    (ht : ruleTransmit s = .next t) : Invariant t := by
  unfold ruleTransmit at ht
  split_ifs at ht with henc hchar hgap
  · exact ruleEnc_invariant hw he h hs henc ht
  · exact ruleChar_invariant hw he h hs hchar ht
  · exact ruleGap_invariant hw he h hs hgap ht

/-- The decision on the acknowledgement character (R165). -/
theorem decideAck_invariant (hw : s.cfg.wf = true) (he : ExitLatched s) (d : RegistersSound s) (u : Underway s) :
    Invariant (decideAck s) := by
  unfold decideAck
  split
  · exact goto_invariant he d u (enterPass_invariant hw d u)
  · exact raiseFail_invariant _ hw he d u

/-- R165. -/
theorem ruleAwaitAck_invariant (hw : s.cfg.wf = true) (he : ExitLatched s) (h : Invariant s) (hs : s.state = 6)
    (ht : ruleAwaitAck s = .next t) : Invariant t := by
  have u : Underway s := h.underway (by simp [hs])
  unfold ruleAwaitAck at ht
  split_ifs at ht with hfault hack htakes hexpired <;> cases ht
  · exact raiseFail_invariant _ hw he h.registers u
  · exact decideAck_invariant hw he h.registers u
  · have haccept := accept_of_accept_ferr (Bool.and_eq_true_iff.mp htakes).2
    rw [rxCharAck, if_pos htakes]
    exact decideAck_invariant (s := { s with ackChar := s.ports.rxData, ackV := true }) hw he
      (h.registers.record_ack haccept) u
  · exact raiseFail_invariant (s := dec s) _ hw he h.registers.after_dec u
  · exact h.after_dec

/-- The log strobe ends (R166, R167). -/
theorem Invariant.after_logEnd (h : Invariant s) : Invariant { s with logPend := false } :=
  { h with
    log_only_at_end := fun hl => absurd hl (by simp)
    cleared_outside := fun hs => congrArg (fun u : State => { u with logPend := false }) (h.cleared_outside hs)
    cleared_at_start := fun hs => congrArg (fun u : State => { u with logPend := false }) (h.cleared_at_start hs) }

/-- R166, R167: with and without an exit request the hold ends in `PowerDown`. -/
theorem ruleHold_invariant (h : Invariant s) (hs : s.state = 7 ∨ s.state = 8) (ht : ruleHold s = .next t) :
    Invariant t := by
  have hheld : Invariant (dec { s with logPend := false }) := h.after_logEnd.after_dec
  have hresult : s.result = 2 ∨ s.result = 3 := hs.imp h.result_passed h.result_failed
  have hdown : Invariant (enterPowerDown (dec { s with logPend := false })) := by
    refine enterPowerDown_invariant hheld.registers ?_ (fun h1 => ?_) h.reason_iff
    · rcases hresult with hr | hr <;> simp [hr]
    · rcases hresult with hr | hr <;> simp [hr] at h1
  unfold ruleHold waitThen goto at ht
  cases ht
  split
  · rwa [ite_self]
  · exact hheld

/-- R168. -/
theorem rulePowerDown_invariant (h : Invariant s) (hs : s.state = 9) (ht : rulePowerDown s = .next t) : Invariant t := by
  obtain ⟨hdev, hprog⟩ := h.unpowered (by simp [hs, PoweredCode])
  cases ht
  exact finishAttempt_invariant h.registers hdev hprog (h.line_idle (by simp [hs]) (by simp [hs]))
    (h.log_off (by simp [hs]) (by simp [hs]))

end Rules

/-! ### The statement -/

/-- Sampling the configuration changes neither the state nor the inputs nor the placed word. -/
theorem sampleConfig_same {s t : State} (h : sampleConfig s = some t) :
    t.state = s.state ∧ t.ports = s.ports ∧ t.slot = s.slot := by
  obtain ⟨hcfg, -, -⟩ := sampleConfig_cases h
  refine ⟨?_, ?_, ?_⟩ <;> rw [hcfg]

theorem exitLatched_prelude (s : State) : ExitLatched (prelude s) := fun h => (exitNow_prelude s).symm.trans h

/-- An edge keeps the invariant if its rule does: reset reaches it, and the rule runs under a configuration that was held or taken
between attempts. -/
theorem clockEdge_invariant {rule : State → Result} {s t : State} (h : Invariant s)
    (hrule : ∀ {u v}, u.cfg.wf = true → Invariant u → u.state = s.state → rule u = .next v → Invariant v)
    (ht : clockEdge rule s = .next t) : Invariant t := by
  obtain ⟨s1, hs1, ⟨hrst, rfl⟩ | ⟨hrst, hw, v, hv, rfl⟩⟩ := clockEdge_eq_next ht
  all_goals obtain ⟨hstate, hports, hslot⟩ := sampleConfig_same hs1
  · exact (resetRegs_invariant (hslot.trans h.slot_free)).after_advance
  · have h1 : Invariant s1 := h.after_sampleConfig (hports ▸ hrst) hs1
    exact (hrule hw h1 hstate hv).after_advance

/-- The same for an edge that runs the prelude first. -/
theorem stateStep_invariant {rule : State → Result} {s t : State} (h : Invariant s)
    (hrule : ∀ {u v}, u.cfg.wf = true → ExitLatched u → Invariant u → u.state = s.state → rule u = .next v → Invariant v)
    (ht : stateStep rule s = .next t) : Invariant t :=
  clockEdge_invariant h (fun hw h1 hs => hrule (u := prelude _) hw (exitLatched_prelude _) h1.after_prelude hs) ht

/-- The step of every state keeps the invariant. -/
theorem runState_invariant {s t : State} (h : Invariant s) (ht : runState s = .next t) : Invariant t := by
  rcases runState_eq s with ⟨hs, hr⟩ | ⟨hs, hr⟩ | ⟨hs, hr⟩ | ⟨hs, hr⟩ | ⟨hs, hr⟩ | ⟨hs, hr⟩ | ⟨hs, hr⟩ | ⟨hs, hr⟩ |
    ⟨hs, hr⟩ | ⟨hs, hr⟩ | ⟨hs, hr⟩ | ⟨hs, hr⟩ <;> rw [hr] at ht
  · exact stateStep_invariant h (fun hw _ hu hc => ruleIdle_invariant hw hu (hc.trans hs)) ht
  · exact stateStep_invariant h (fun hw he hu hc => rulePowerUp_invariant hw he hu (hc.trans hs)) ht
  · exact stateStep_invariant h (fun hw he hu hc => ruleAwaitInbound_invariant hw he hu (hc.trans hs)) ht
  · exact stateStep_invariant h (fun hw he hu hc => ruleValidate_invariant hw he hu (hc.trans hs)) ht
  · exact stateStep_invariant h (fun hw he hu hc => ruleCompute_invariant hw he hu (hc.trans hs)) ht
  · exact stateStep_invariant h (fun hw he hu hc => ruleTransmit_invariant hw he hu (hc.trans hs)) ht
  · exact stateStep_invariant h (fun hw he hu hc => ruleAwaitAck_invariant hw he hu (hc.trans hs)) ht
  · exact stateStep_invariant h (fun _ _ hu hc => ruleHold_invariant hu (.inl (hc.trans hs))) ht
  · exact stateStep_invariant h (fun _ _ hu hc => ruleHold_invariant hu (.inr (hc.trans hs))) ht
  · exact stateStep_invariant h (fun _ _ hu hc => rulePowerDown_invariant hu (hc.trans hs)) ht
  · exact clockEdge_invariant h (fun _ hu _ hv => Host.Outcome.next.inj hv ▸ hu) ht
  · exact absurd h.state_code (by omega)

/-- Settles O50: no word is placed under the invariant, so the step is the rule of the state. -/
theorem invariantKeptByEveryStep : Obligations.InvariantKeptByEveryStep :=
  fun _ _ h ht => runState_invariant h ((step_eq_runState h.slot_free).symm.trans ht)

/-- Settles O51: the state after reset is the one a reset edge gives its registers. -/
theorem invariantAfterReset : Obligations.InvariantAfterReset := by
  have hreset : ∀ (cfg : Config) (ports : Inputs) (env : List Inputs), Invariant (State.resetWith cfg ports env) :=
    fun cfg ports env => resetRegs_invariant (s := State.resetWith cfg ports env) rfl
  exact ⟨hreset _ _ _, hreset⟩

end Sys2Proof.Machine
end

section
/-! PROOFS. A configuration taken between attempts (O28), and what lets an ordinary step complete (O52). -/

namespace Sys2Proof.Machine

/-! ### A configuration taken in `Idle` or `Shutdown` -/

/-- The state with the configuration lines held and the other inputs as they are. -/
def holdLines (s : State) : State := { s with ports := { s.ports with reconfig := none } }

/-- The rule and the end of its step do not see what the configuration lines carry: only sampling does (R52). -/
def IgnoresLines (rule : State → Result) : Prop :=
  ∀ s, andThen (rule (holdLines s)) (fun t => .next (advance t)) = andThen (rule s) (fun t => .next (advance t))

/-- In `Idle` and `Shutdown` the configuration that the lines carry is sampled, `TIMER_W` staying as it is (R52). -/
theorem sampleConfig_taken {s : State} {c : Config} (hc : s.ports.reconfig = some c) (hs : s.state = 0 ∨ s.state = 10) :
    sampleConfig s = some { s with cfg := { c with timerW := s.cfg.timerW } } := by
  rcases hs with hs | hs <;> simp [sampleConfig, hc, State.isIn, SeqState.code, hs]

/-- There the edge that shows a new configuration is the edge under it. -/
theorem clockEdge_taken {rule : State → Result} {s : State} {c : Config} (hrule : IgnoresLines rule)
    (hc : s.ports.reconfig = some c) (hs : s.state = 0 ∨ s.state = 10) :
    clockEdge rule s = clockEdge rule (holdLines { s with cfg := { c with timerW := s.cfg.timerW } }) := by
  unfold clockEdge
  rw [sampleConfig_taken hc hs, sampleConfig_held rfl]
  exact if_congr Iff.rfl rfl (if_congr Iff.rfl (hrule _).symm rfl)

/-- The prelude reads and writes none of them (R156). -/
theorem IgnoresLines.after_prelude {rule : State → Result} (hrule : IgnoresLines rule) :
    IgnoresLines (fun s => rule (prelude s)) :=
  fun s => hrule (prelude s)

theorem ruleIdle_ignoresLines : IgnoresLines ruleIdle := by
  intro s
  have hexit : exitNow (holdLines s) = exitNow s := rfl
  have hstart : (holdLines s).ports.startReq = s.ports.startReq := rfl
  unfold ruleIdle
  rw [hexit, hstart]
  split_ifs <;> rfl

/-- The rule of `Shutdown` changes nothing (R169). -/
theorem next_ignoresLines : IgnoresLines Host.Outcome.next := fun _ => rfl

/-- Settles O28: in both states the change is sampled on the edge, and the rule does not see the lines. -/
theorem configurationChangeBetweenAttempts : Obligations.ConfigurationChangeBetweenAttempts := by
  rintro s c i hc (⟨hs, rfl⟩ | ⟨hs, rfl⟩)
  · exact clockEdge_taken ruleIdle_ignoresLines.after_prelude hc (.inl hs)
  · exact clockEdge_taken next_ignoresLines hc (.inr hs)

/-! ### The rules that complete -/

/-- A next state is answered: no fault, no refusal. -/
def Completes (r : Result) : Prop := ∃ t, r = .next t

/-- An ordinary edge completes if its rule does. -/
theorem clockEdge_completes {rule : State → Result} {s : State} (hs : Ordinary s) (hrule : Completes (rule s)) :
    Completes (clockEdge rule s) := by
  obtain ⟨t, ht⟩ := hrule
  exact ⟨advance t, by rw [clockEdge_ordinary hs, ht, andThen_next]⟩

/-- The same for an edge that runs the prelude first. -/
theorem stateStep_completes {rule : State → Result} {s : State} (hs : Ordinary s) (hrule : Completes (rule (prelude s))) :
    Completes (stateStep rule s) :=
  clockEdge_completes hs hrule

theorem ruleIdle_completes (s : State) : Completes (ruleIdle s) := by
  unfold ruleIdle
  split_ifs <;> exact ⟨_, rfl⟩

theorem ruleValidate_completes (s : State) : Completes (ruleValidate s) := by
  unfold ruleValidate
  split_ifs <;> exact ⟨_, rfl⟩

theorem ruleChar_completes (s : State) : Completes (ruleChar s) := by
  unfold ruleChar
  split_ifs <;> exact ⟨_, rfl⟩

theorem ruleGap_completes (s : State) : Completes (ruleGap s) := by
  unfold ruleGap
  split_ifs <;> exact ⟨_, rfl⟩

theorem ruleAwaitAck_completes (s : State) : Completes (ruleAwaitAck s) := by
  unfold ruleAwaitAck
  split_ifs <;> exact ⟨_, rfl⟩

/-- An inbound character finds its element while the count is below six (R40). -/
theorem rxCharInbound_completes {s : State} (hroom : s.rxCnt < 6) : Completes (rxCharInbound s) := by
  cases htakes : rxTakes s with
  | false => exact ⟨_, rxCharInbound_none htakes⟩
  | true => exact ⟨_, rxCharInbound_some htakes hroom⟩

theorem ruleAwaitInbound_completes {s : State} (hroom : s.rxCnt < 6) : Completes (ruleAwaitInbound s) := by
  obtain ⟨u, hu⟩ := rxCharInbound_completes hroom
  unfold ruleAwaitInbound
  rw [hu, andThen_next]
  split_ifs <;> exact ⟨_, rfl⟩

/-- An encoded frame fits `tx_buf` (R40, R116). -/
theorem ruleEnc_completes {s : State} (hw : s.cfg.wf = true) : Completes (ruleEnc s) := by
  unfold ruleEnc
  split
  · exact ⟨_, rfl⟩
  · rename_i f hf
    obtain ⟨-, -, -, hmax⟩ := encodeFrame_length hw hf
    exact ⟨_, loadFrame_eq hmax⟩

theorem phase_cases {p : BitVec 2} (hp : p ≠ 3) : p = 0 ∨ p = 1 ∨ p = 2 := by
  revert p; decide

/-- `Transmit` has a rule for every phase code but the unused one (R164, U21). -/
theorem ruleTransmit_completes {s : State} (hw : s.cfg.wf = true) (hp : s.txPhase ≠ 3) : Completes (ruleTransmit s) := by
  unfold ruleTransmit
  rcases phase_cases hp with hp | hp | hp <;> rw [hp]
  · exact ruleEnc_completes hw
  · exact ruleChar_completes s
  · exact ruleGap_completes s

/-- Settles O52: the rules that could stop do not, by the room in the open window, the phase code and the frame's length. -/
theorem ordinaryStepsComplete : Obligations.OrdinaryStepsComplete := by
  intro s h ho
  rw [step_eq_runState h.slot_free]
  rcases runState_eq s with ⟨hs, hr⟩ | ⟨hs, hr⟩ | ⟨hs, hr⟩ | ⟨hs, hr⟩ | ⟨hs, hr⟩ | ⟨hs, hr⟩ | ⟨hs, hr⟩ | ⟨hs, hr⟩ |
    ⟨hs, hr⟩ | ⟨hs, hr⟩ | ⟨hs, hr⟩ | ⟨hs, hr⟩ <;> rw [hr]
  · exact stateStep_completes ho (ruleIdle_completes _)
  · exact stateStep_completes ho ⟨_, rfl⟩
  · exact stateStep_completes ho (ruleAwaitInbound_completes (h.window_open hs).1)
  · exact stateStep_completes ho (ruleValidate_completes _)
  · exact stateStep_completes ho ⟨_, rfl⟩
  · exact stateStep_completes ho (ruleTransmit_completes ho.2.2 h.phase_code)
  · exact stateStep_completes ho (ruleAwaitAck_completes _)
  · exact stateStep_completes ho ⟨_, rfl⟩
  · exact stateStep_completes ho ⟨_, rfl⟩
  · exact stateStep_completes ho ⟨_, rfl⟩
  · exact clockEdge_completes ho ⟨s, rfl⟩
  · exact absurd h.state_code (by omega)

end Sys2Proof.Machine
end

section
/-! PROOFS. The frame buffers: what the inbound window stores (O35) and the canonical form, kept by every row (O53). Most operations
leave both buffers alone (`SameBuffers`); the few that do not either clear them or write through `Memory.write`. -/

namespace Sys2Proof.Machine

/-! ### Operations that leave the buffers alone -/

/-- Both frame buffers and the count of received characters are as before. -/
def SameBuffers (s t : State) : Prop := t.rxBuf = s.rxBuf ∧ t.txBuf = s.txBuf ∧ t.rxCnt = s.rxCnt

theorem SameBuffers.refl (s : State) : SameBuffers s s := ⟨rfl, rfl, rfl⟩

/-- `goto` leaves the buffers alone if the entry of its target does; that of `PowerDown` does (R157, R158). -/
theorem goto_sameBuffers {enterY : State → State} {s u : State} (h : SameBuffers s (enterY u)) (hu : SameBuffers s u) :
    SameBuffers s (goto enterY u) := by
  unfold goto
  split
  · exact hu
  · exact h

theorem raiseFail_sameBuffers (r : Reason) {s u : State} (hu : SameBuffers s u) : SameBuffers s (raiseFail r u) :=
  goto_sameBuffers hu hu

/-- The length and sentinel tests read the buffer only (R113). -/
theorem decodeInbound_sameBuffers (s : State) : SameBuffers s (decodeInbound s) := by
  have hs := SameBuffers.refl s
  rcases decodeInbound_cases s with ⟨-, heq⟩ | ⟨-, -, heq⟩ | ⟨-, -, heq⟩ <;> rw [heq]
  · exact raiseFail_sameBuffers _ hs
  · exact raiseFail_sameBuffers _ hs
  · exact goto_sameBuffers hs hs

theorem decideAck_sameBuffers {s u : State} (hu : SameBuffers s u) : SameBuffers s (decideAck u) := by
  unfold decideAck
  split
  · exact goto_sameBuffers hu hu
  · exact raiseFail_sameBuffers _ hu

theorem rxCharAck_sameBuffers (s : State) : SameBuffers s (rxCharAck s) :=
  ⟨rxCharAck_rxBuf s, rxCharAck_txBuf s, rxCharAck_rxCnt s⟩

/-- A timed wait leaves the buffers alone if the entry at its end does. -/
theorem waitThen_sameBuffers {enterY : State → State} {s u : State} (h : SameBuffers s (enterY (dec u)))
    (hu : SameBuffers s u) : SameBuffers s (waitThen enterY u) := by
  unfold waitThen
  split
  · exact goto_sameBuffers h hu
  · exact hu

/-! ### What each rule does to the buffers -/

section Rules

variable {s t : State}

theorem rulePowerUp_sameBuffers (ht : rulePowerUp s = .next t) : SameBuffers s t := by
  cases ht
  exact waitThen_sameBuffers (.refl s) (.refl s)

/-- The window stores the presented byte at the count, if it is accepted, and nothing else (R92, R161). -/
theorem ruleAwaitInbound_stores (ht : ruleAwaitInbound s = .next t) :
    SameBuffers s t ∨ (rxTakes s = true ∧ SameBuffers (withCharacter s.ports.rxData s) t) := by
  unfold ruleAwaitInbound at ht
  split at ht
  · cases ht
    exact .inl (raiseFail_sameBuffers _ (.refl s))
  · obtain ⟨u, hu, hend⟩ := andThen_eq_next ht
    have hwindow : SameBuffers u t := by
      split at hend <;> cases hend
      · exact decodeInbound_sameBuffers (dec u)
      · exact .refl u
    rcases rxCharInbound_cases hu with ⟨-, rfl⟩ | ⟨htakes, -, rfl⟩
    · exact .inl hwindow
    · exact .inr ⟨htakes, hwindow⟩

theorem ruleValidate_sameBuffers (ht : ruleValidate s = .next t) : SameBuffers s t := by
  unfold ruleValidate at ht
  split at ht <;> cases ht
  · exact goto_sameBuffers (.refl s) (.refl s)
  · exact raiseFail_sameBuffers _ (.refl s)

theorem ruleCompute_sameBuffers (ht : ruleCompute s = .next t) : SameBuffers s t := by
  unfold ruleCompute concludeCompute at ht
  split at ht <;> cases ht
  · exact raiseFail_sameBuffers _ (.refl s)
  · exact goto_sameBuffers (.refl s) (.refl s)

theorem ruleChar_sameBuffers (ht : ruleChar s = .next t) : SameBuffers s t := by
  unfold ruleChar at ht
  split_ifs at ht <;> cases ht
  · exact raiseFail_sameBuffers _ (.refl s)
  · exact .refl s
  · exact .refl s

theorem ruleGap_sameBuffers (ht : ruleGap s = .next t) : SameBuffers s t := by
  unfold ruleGap at ht
  split_ifs at ht <;> cases ht
  · exact raiseFail_sameBuffers _ (.refl s)
  · exact goto_sameBuffers (.refl s) (.refl s)
  · exact .refl s
  · exact .refl s

theorem ruleAwaitAck_sameBuffers (ht : ruleAwaitAck s = .next t) : SameBuffers s t := by
  unfold ruleAwaitAck at ht
  split_ifs at ht <;> cases ht
  · exact raiseFail_sameBuffers _ (.refl s)
  · exact decideAck_sameBuffers (.refl s)
  · exact decideAck_sameBuffers (rxCharAck_sameBuffers s)
  · exact raiseFail_sameBuffers (u := dec s) _ (.refl s)
  · exact .refl s

theorem ruleHold_sameBuffers (ht : ruleHold s = .next t) : SameBuffers s t := by
  cases ht
  exact waitThen_sameBuffers (.refl s) (.refl s)

end Rules

/-! ### What the inbound window stores -/

/-- Settles O35: by what the rule stores, and a read after a write. -/
theorem inboundWindowStoresOneElement : Obligations.InboundWindowStoresOneElement := by
  intro s t ho hform ht
  have hstep : exec .stAwaitinbound s = andThen (ruleAwaitInbound (prelude s)) (fun u => .next (advance u)) :=
    stateStep_ordinary ho
  obtain ⟨u, hu, hadv⟩ := andThen_eq_next (hstep.symm.trans ht)
  obtain rfl : advance u = t := Host.Outcome.next.inj hadv
  rcases ruleAwaitInbound_stores hu with ⟨hrx, htx, hcnt⟩ | ⟨htakes, hrx, htx, hcnt⟩
  · have hkept : u.rxBuf = s.rxBuf ∧ u.txBuf = s.txBuf ∧ u.rxCnt = s.rxCnt := ⟨hrx, htx, hcnt⟩
    simp [hkept]
  · have hstored : u.rxBuf = s.rxBuf.write s.rxCnt s.ports.rxData ∧ u.txBuf = s.txBuf ∧ u.rxCnt = s.rxCnt + 1 :=
      ⟨hrx, htx, hcnt⟩
    have haccept : accept s.ports.rxData s.ports.rxFerr = true := (Bool.and_eq_true_iff.mp htakes).2
    have hother : ∀ j, j ≠ s.rxCnt → (s.rxBuf.write s.rxCnt s.ports.rxData).read j = s.rxBuf.read j :=
      fun j hj => Memory.read_write_other _ hj.symm
    simpa [hstored, hform, haccept] using hother

/-! ### The canonical form -/

/-- Both frame buffers have the canonical form. -/
def Canonical (s : State) : Prop := s.rxBuf.wf = true ∧ s.txBuf.wf = true

/-- The operation leaves canonical buffers canonical. -/
def KeepsForm (op : State → Result) : Prop := ∀ s t, Canonical s → op s = .next t → Canonical t

theorem SameBuffers.canonical {s t : State} (h : SameBuffers s t) (hs : Canonical s) : Canonical t := by
  obtain ⟨hrx, htx, -⟩ := h
  exact ⟨hrx ▸ hs.1, htx ▸ hs.2⟩

/-- An operation that leaves the buffers alone keeps their form. -/
theorem KeepsForm.of_sameBuffers {op : State → Result} (h : ∀ {s t}, op s = .next t → SameBuffers s t) : KeepsForm op :=
  fun _ _ hs ht => (h ht).canonical hs

/-- So does a register write that leaves them alone. -/
theorem KeepsForm.of_next {f : State → State} (h : ∀ s, SameBuffers s (f s)) : KeepsForm (fun s => .next (f s)) := by
  intro s t hs ht
  cases ht
  exact (h s).canonical hs

/-- One operation after another. -/
theorem KeepsForm.seq {f g : State → Result} (hf : KeepsForm f) (hg : KeepsForm g) :
    KeepsForm (fun s => andThen (f s) g) := by
  intro s t hs ht
  obtain ⟨u, hu, hnext⟩ := andThen_eq_next ht
  exact hg u t (hf s u hs hu) hnext

theorem Canonical.withCharacter {s : State} (hs : Canonical s) (b : Byte) : Canonical (withCharacter b s) :=
  ⟨Memory.write_wf _ _ _ hs.1, hs.2⟩

/-! ### The rules keep the form -/

theorem ruleIdle_keepsForm : KeepsForm ruleIdle := by
  intro s t hs ht
  unfold ruleIdle at ht
  split_ifs at ht <;> cases ht
  · exact hs
  · exact ⟨Memory.wf_nil, Memory.wf_nil⟩
  · exact hs

theorem ruleAwaitInbound_keepsForm : KeepsForm ruleAwaitInbound := by
  intro s t hs ht
  rcases ruleAwaitInbound_stores ht with hsame | ⟨-, hsame⟩
  · exact hsame.canonical hs
  · exact hsame.canonical (hs.withCharacter _)

theorem loadFrame_keepsForm (f : List Byte) : KeepsForm (loadFrame f) := by
  intro s t hs ht
  rw [loadFrame_eq_next ht]
  exact ⟨hs.1, Memory.writeList_wf f 0 _ hs.2⟩

theorem ruleEnc_keepsForm : KeepsForm ruleEnc := by
  intro s t hs ht
  unfold ruleEnc at ht
  split at ht
  · cases ht
    exact (raiseFail_sameBuffers _ (.refl s)).canonical hs
  · exact loadFrame_keepsForm _ s t hs ht

theorem ruleTransmit_keepsForm : KeepsForm ruleTransmit := by
  intro s t hs ht
  unfold ruleTransmit at ht
  split_ifs at ht
  · exact ruleEnc_keepsForm s t hs ht
  · exact (ruleChar_sameBuffers ht).canonical hs
  · exact (ruleGap_sameBuffers ht).canonical hs

/-- The buffers are cleared (R168). -/
theorem rulePowerDown_keepsForm : KeepsForm rulePowerDown := by
  intro s t _ ht
  cases ht
  exact ⟨Memory.wf_nil, Memory.wf_nil⟩

/-! ### Steps keep the form -/

theorem sampleConfig_canonical {s t : State} (hs : Canonical s) (ht : sampleConfig s = some t) : Canonical t := by
  obtain ⟨hcfg, -, -⟩ := sampleConfig_cases ht
  rw [hcfg]
  exact hs

/-- An edge keeps the form if its rule does; reset clears the buffers. -/
theorem clockEdge_keepsForm {rule : State → Result} (hrule : KeepsForm rule) : KeepsForm (clockEdge rule) := by
  intro s t hs ht
  obtain ⟨s1, hs1, ⟨-, rfl⟩ | ⟨-, -, u, hu, rfl⟩⟩ := clockEdge_eq_next ht
  · exact ⟨Memory.wf_nil, Memory.wf_nil⟩
  · exact hrule s1 u (sampleConfig_canonical hs hs1) hu

theorem stateStep_keepsForm {rule : State → Result} (hrule : KeepsForm rule) : KeepsForm (stateStep rule) :=
  clockEdge_keepsForm fun s => hrule (prelude s)

/-! ### The state rows keep the form -/

theorem execStIdle_keepsForm : KeepsForm execStIdle := stateStep_keepsForm ruleIdle_keepsForm

theorem execStPowerup_keepsForm : KeepsForm execStPowerup := stateStep_keepsForm (.of_sameBuffers rulePowerUp_sameBuffers)

theorem execStAwaitinbound_keepsForm : KeepsForm execStAwaitinbound := stateStep_keepsForm ruleAwaitInbound_keepsForm

theorem execStValidate_keepsForm : KeepsForm execStValidate :=
  stateStep_keepsForm (.of_sameBuffers ruleValidate_sameBuffers)

theorem execStCompute_keepsForm : KeepsForm execStCompute := stateStep_keepsForm (.of_sameBuffers ruleCompute_sameBuffers)

theorem execStTransmit_keepsForm : KeepsForm execStTransmit := stateStep_keepsForm ruleTransmit_keepsForm

theorem execStAwaitack_keepsForm : KeepsForm execStAwaitack :=
  stateStep_keepsForm (.of_sameBuffers ruleAwaitAck_sameBuffers)

/-- `Pass` and `Fail` have one rule (R166, R167). -/
theorem stateStep_ruleHold_keepsForm : KeepsForm (stateStep ruleHold) :=
  stateStep_keepsForm (.of_sameBuffers ruleHold_sameBuffers)

theorem execStPowerdown_keepsForm : KeepsForm execStPowerdown := stateStep_keepsForm rulePowerDown_keepsForm

theorem execStShutdown_keepsForm : KeepsForm execStShutdown := clockEdge_keepsForm (.of_next .refl)

/-- Its rule answers no next state (U21): only reset does. -/
theorem execStUnused_keepsForm (c : BitVec 4) : KeepsForm (execStUnused c) :=
  clockEdge_keepsForm fun _ _ _ ht => by cases ht

/-- The step of every state keeps the form. -/
theorem runState_keepsForm : KeepsForm runState := by
  intro s t hs ht
  rcases runState_eq s with ⟨-, hr⟩ | ⟨-, hr⟩ | ⟨-, hr⟩ | ⟨-, hr⟩ | ⟨-, hr⟩ | ⟨-, hr⟩ | ⟨-, hr⟩ | ⟨-, hr⟩ |
    ⟨-, hr⟩ | ⟨-, hr⟩ | ⟨-, hr⟩ | ⟨-, hr⟩ <;> rw [hr] at ht
  · exact execStIdle_keepsForm s t hs ht
  · exact execStPowerup_keepsForm s t hs ht
  · exact execStAwaitinbound_keepsForm s t hs ht
  · exact execStValidate_keepsForm s t hs ht
  · exact execStCompute_keepsForm s t hs ht
  · exact execStTransmit_keepsForm s t hs ht
  · exact execStAwaitack_keepsForm s t hs ht
  · exact stateStep_ruleHold_keepsForm s t hs ht
  · exact stateStep_ruleHold_keepsForm s t hs ht
  · exact execStPowerdown_keepsForm s t hs ht
  · exact execStShutdown_keepsForm s t hs ht
  · exact execStUnused_keepsForm _ s t hs ht

/-! ### Characters and frames from the device keep the form -/

/-- A presented byte is a step of the block (R91). -/
theorem rxEvent_keepsForm (b : Byte) (ferr : Bool) : KeepsForm (rxEvent b ferr) :=
  fun s => runState_keepsForm (present b ferr s)

theorem rxFrame_keepsForm (f : List Byte) : KeepsForm (rxFrame f) := by
  induction f with
  | nil => exact .of_next .refl
  | cons c rest ih => exact (rxEvent_keepsForm c false).seq ih

/-- The step of a state if the block is there, as `validateIfThere` and `computeIfThere` are. -/
theorem stepIfIn_keepsForm (y : SeqState) : KeepsForm (fun s => if s.isIn y = true then runState s else .next s) := by
  intro s t hs ht
  dsimp only at ht
  split at ht
  · exact runState_keepsForm s t hs ht
  · cases ht
    exact hs

/-! ### Operations of several steps keep the form -/

/-- The edge function leaves canonical buffers canonical, however it leaves the operation. -/
def EdgeKeepsForm (edge : State → Host.Outcome (State × EdgeEnd) Fault Refusal) : Prop :=
  ∀ s p, Canonical s → edge s = .next p → Canonical p.1

/-- What a completed edge of an operation did: reset, or its edge function. -/
theorem oneEdge_eq_next {edge : State → Host.Outcome (State × EdgeEnd) Fault Refusal} {s : State} {p : State × Bool}
    (h : oneEdge edge s = .next p) :
    ∃ s1, sampleConfig s = some s1 ∧
      ((s1.ports.rst = true ∧ p = (advance (resetRegs s1), false)) ∨
       (s1.ports.rst = false ∧ s1.cfg.wf = true ∧ ∃ q, edge s1 = .next q ∧ p = endEdge q)) := by
  unfold oneEdge at h
  split at h
  · cases h
  · rename_i s1 hs1
    refine ⟨s1, hs1, ?_⟩
    split_ifs at h with hrst hw
    · cases h
      exact .inl ⟨hrst, rfl⟩
    · obtain ⟨q, hq, hend⟩ := andThen_eq_next h
      cases hend
      exact .inr ⟨by simpa using hrst, hw, q, hq, rfl⟩

theorem endEdge_sameBuffers (p : State × EdgeEnd) : SameBuffers p.1 (endEdge p).1 := by
  unfold endEdge
  split <;> exact .refl p.1

theorem oneEdge_canonical {edge : State → Host.Outcome (State × EdgeEnd) Fault Refusal} (hedge : EdgeKeepsForm edge)
    {s : State} {p : State × Bool} (hs : Canonical s) (h : oneEdge edge s = .next p) : Canonical p.1 := by
  obtain ⟨s1, hs1, ⟨-, rfl⟩ | ⟨-, -, q, hq, rfl⟩⟩ := oneEdge_eq_next h
  · exact ⟨Memory.wf_nil, Memory.wf_nil⟩
  · exact (endEdge_sameBuffers q).canonical (hedge s1 q (sampleConfig_canonical hs hs1) hq)

theorem manyEdges_keepsForm {edge : State → Host.Outcome (State × EdgeEnd) Fault Refusal} (hedge : EdgeKeepsForm edge)
    (later : List Inputs) : KeepsForm (manyEdges edge later) := by
  induction later with
  | nil =>
    intro s t hs ht
    obtain ⟨p, hp, hnext⟩ := andThen_eq_next ht
    cases hnext
    exact oneEdge_canonical hedge hs hp
  | cons i rest ih =>
    intro s t hs ht
    obtain ⟨p, hp, hnext⟩ := andThen_eq_next ht
    have hpform : Canonical p.1 := oneEdge_canonical hedge hs hp
    split at hnext
    · exact ih p.1 t hpform hnext
    · cases hnext
      exact hpform

theorem rxCharInbound_keepsForm : KeepsForm rxCharInbound := by
  intro s t hs ht
  rcases rxCharInbound_cases ht with ⟨-, rfl⟩ | ⟨-, -, rfl⟩
  · exact hs
  · exact hs.withCharacter _

theorem ackEdge_sameBuffers (s : State) : SameBuffers s (ackEdge s).1 := by
  unfold ackEdge
  split
  · exact rxCharAck_sameBuffers s
  · exact .refl s

theorem readEdge_keepsForm (expected : Nat) : EdgeKeepsForm (readEdge expected) := by
  intro s p hs hp
  unfold readEdge at hp
  split at hp
  · cases hp
    exact (raiseFail_sameBuffers (u := prelude s) _ (.refl s)).canonical hs
  · obtain ⟨q, hq, hconsumed⟩ := andThen_eq_next hp
    cases hconsumed
    split at hq
    · obtain ⟨u, hu, hwindow⟩ := andThen_eq_next hq
      cases hwindow
      exact rxCharInbound_keepsForm (prelude s) u hs hu
    · cases hq
      exact (ackEdge_sameBuffers (prelude s)).canonical hs

theorem charEdge_sameBuffers (onDone : EdgeEnd) (s : State) : SameBuffers s (charEdge onDone s).1 := by
  unfold charEdge
  split_ifs
  · exact raiseFail_sameBuffers _ (.refl s)
  · exact .refl s
  · exact .refl s

theorem gapEdge_sameBuffers (s : State) : SameBuffers s (gapEdge s).1 := by
  unfold gapEdge
  split_ifs
  · exact raiseFail_sameBuffers _ (.refl s)
  · exact .refl s
  · exact .refl s
  · exact .refl s

theorem writeEdge_sameBuffers (s : State) : SameBuffers s (writeEdge s).1 := by
  unfold writeEdge
  split
  · exact gapEdge_sameBuffers (prelude s)
  · exact charEdge_sameBuffers .more (prelude s)

theorem EdgeKeepsForm.of_sameBuffers {edge : State → State × EdgeEnd} (h : ∀ s, SameBuffers s (edge s).1) :
    EdgeKeepsForm (fun s => .next (edge s)) := by
  intro s p hs hp
  cases hp
  exact (h s).canonical hs

theorem execReadframe_keepsForm (expected deadline : Nat) : KeepsForm (execReadframe expected deadline) := by
  intro s t hs ht
  unfold execReadframe at ht
  split at ht
  · exact manyEdges_keepsForm (readEdge_keepsForm expected) s.env { s with timer := deadline } t hs ht
  · cases ht
    exact hs

theorem execTxchar_keepsForm : KeepsForm execTxchar := by
  intro s t hs ht
  unfold execTxchar at ht
  split at ht
  · exact manyEdges_keepsForm (.of_sameBuffers fun u => charEdge_sameBuffers .closedStep (prelude u)) s.env
      { s with txPhase := TxPhase.char.code } t hs ht
  · cases ht
    exact hs

theorem execWriteframe_keepsForm : KeepsForm execWriteframe := by
  intro s t hs ht
  unfold execWriteframe at ht
  split at ht
  · exact manyEdges_keepsForm (.of_sameBuffers writeEdge_sameBuffers) s.env
      { s with txIdx := 0, txPhase := TxPhase.char.code } t hs ht
  · cases ht
    exact hs

/-! ### The other rows keep the form -/

theorem sendFrame_keepsForm (f : List Byte) : KeepsForm (sendFrame f) := stateStep_keepsForm (loadFrame_keepsForm f)

theorem underLegalConfig_keepsForm {op : State → Result} (hop : KeepsForm op) : KeepsForm (underLegalConfig op) := by
  intro s t hs ht
  unfold underLegalConfig at ht
  split at ht
  · exact hop s t hs ht
  · cases ht

theorem raiseRow_keepsForm (r : Reason) : KeepsForm (raiseRow r) :=
  underLegalConfig_keepsForm (.of_next fun s => raiseFail_sameBuffers r (.refl s))

theorem execDecodeinbound_keepsForm : KeepsForm execDecodeinbound :=
  underLegalConfig_keepsForm (.of_next decodeInbound_sameBuffers)

theorem execComputesetpoint_keepsForm (raw : BitVec 16) (tref : Int) : KeepsForm (execComputesetpoint raw tref) :=
  underLegalConfig_keepsForm (.of_next fun s => .refl s)

theorem execEncodeoutbound_keepsForm (sp : Int) : KeepsForm (execEncodeoutbound sp) := by
  refine underLegalConfig_keepsForm fun s t hs ht => ?_
  split at ht <;> cases ht
  · exact (raiseFail_sameBuffers _ (.refl s)).canonical hs
  · exact hs

theorem execRxchar_keepsForm : KeepsForm execRxchar := by
  intro s t hs ht
  unfold execRxchar at ht
  split_ifs at ht
  · obtain ⟨u, hu, hconsumed⟩ := andThen_eq_next ht
    cases hconsumed
    exact rxCharInbound_keepsForm s u hs hu
  · cases ht
    exact (rxCharAck_sameBuffers s).canonical hs
  · cases ht
    exact hs

/-! ### The statement -/

/-- Every row keeps the form: by what it is, a step, a presented byte, a frame, or a register write. -/
theorem exec_keepsForm (i : Instr) : KeepsForm (exec i) := by
  cases i with
  | ch0 | ch1 | ch2 | ch3 | ch4 | ch5 | ch6 | ch7 | ch8 | ch9 | chA | chB | chC | chD | chE | chF | chG | chH | chY
  | noise => exact rxEvent_keepsForm _ _
  | frameInbound d0 d1 d2 d3 k =>
    exact (rxFrame_keepsForm [0x47, d0, d1, d2, d3, k]).seq ((stepIfIn_keepsForm .validate).seq (stepIfIn_keepsForm .compute))
  | frameOutboundPadP0 | frameOutboundUnpadP0D1 | frameOutboundUnpadP0D2 | frameOutboundUnpadP0D3
  | frameOutboundPadP1 | frameOutboundUnpadP1D1 | frameOutboundUnpadP1D2 | frameOutboundUnpadP1D3
  | frameOutboundPadP2 | frameOutboundUnpadP2D1 | frameOutboundUnpadP2D2 | frameOutboundUnpadP2D3 =>
    exact sendFrame_keepsForm _
  | frameAck => exact rxFrame_keepsForm _
  | accept | hexval | hexchar | checksum | verifychecksum | decodereading | settxline | resNone | resPending | resPassed
  | resFailed | rsnNone => exact .of_next fun s => .refl s
  | rxchar => exact execRxchar_keepsForm
  | readframe => exact execReadframe_keepsForm _ _
  | decodeinbound => exact execDecodeinbound_keepsForm
  | encodeoutbound => exact execEncodeoutbound_keepsForm _
  | computesetpoint => exact execComputesetpoint_keepsForm _ _
  | txchar => exact execTxchar_keepsForm
  | writeframe => exact execWriteframe_keepsForm
  | stIdle => exact execStIdle_keepsForm
  | stPowerup => exact execStPowerup_keepsForm
  | stAwaitinbound => exact execStAwaitinbound_keepsForm
  | stValidate => exact execStValidate_keepsForm
  | stCompute => exact execStCompute_keepsForm
  | stTransmit => exact execStTransmit_keepsForm
  | stAwaitack => exact execStAwaitack_keepsForm
  | stPass | stFail => exact stateStep_ruleHold_keepsForm
  | stPowerdown => exact execStPowerdown_keepsForm
  | stShutdown => exact execStShutdown_keepsForm
  | stUnused c => exact execStUnused_keepsForm c
  | txphEnc => exact stateStep_keepsForm ruleEnc_keepsForm
  | txphChar => exact stateStep_keepsForm (.of_sameBuffers ruleChar_sameBuffers)
  | txphGap => exact stateStep_keepsForm (.of_sameBuffers ruleGap_sameBuffers)
  | rsnIncomplete | rsnBadsentinel | rsnChecksummismatch | rsnInvalidreading | rsnValueoutofrange | rsnTransporterror
  | rsnUnverified => exact raiseRow_keepsForm _

/-- Settles O53: every write to a buffer goes through `Memory.write`, or clears it. -/
theorem buffersStayCanonical : Obligations.BuffersStayCanonical :=
  fun i s t hrx htx ht => exec_keepsForm i s t ⟨hrx, htx⟩ ht

end Sys2Proof.Machine
end

section
/-! PROOFS. The output ports under the invariant (O54). -/

namespace Sys2Proof.Machine

/-- A character is presented in `Transmit` phase `CHAR` only (R140). -/
theorem txValid_iff (s : State) : txValid s = true ↔ s.state = 5 ∧ s.txPhase = 1 := by
  simp [txValid, State.isIn, SeqState.code, TxPhase.code]

/-- The read windows are `AwaitInbound` and `AwaitAck` (R24). -/
theorem rxReady_iff (s : State) : rxReady s = true ↔ s.state = 2 ∨ s.state = 6 := by
  simp [rxReady, State.isIn, SeqState.code]

/-- One indicator shows in the states from `PowerUp` to `Fail`, none in the others (R209). -/
theorem indicators_count (s : State) :
    (indBusy s).toNat + (s.isIn .fail).toNat + (s.isIn .pass).toNat =
      if 1 ≤ s.state.toNat ∧ s.state.toNat ≤ 8 then 1 else 0 := by
  unfold indBusy State.isIn
  generalize s.state = c
  revert c
  decide

theorem isIn_of_state_eq {s : State} {y : SeqState} (h : s.state = y.code) : s.isIn y = true := by
  simp [State.isIn, h]

/-- The frame in the buffer is the one that encodes the set-point, of `tx_len` characters (R164, R116). -/
theorem Invariant.encoded_frame {s : State} (h : Invariant s) (hidx : s.txIdx < s.txLen) :
    ∃ f, encodeFrame s.cfg s.setpoint = some f ∧ f.length = s.txLen ∧ f[s.txIdx]? = some (s.txBuf.read s.txIdx) :=
  ⟨_, h.frame_is_encoded (Nat.zero_lt_of_lt hidx), by simp, by simp [hidx]⟩

/-- Settles O54: a character is presented in `Transmit` past `ENC` only, where the invariant has the inbound frame, its reading, its
set-point and the outbound frame. -/
theorem outputsUnderTheInvariant : Obligations.OutputsUnderTheInvariant := by
  refine fun s h => ⟨?neverTogether, indicators_count s, fun hlog => ?strobe, fun htx => ?presented⟩
  case neverTogether =>
    rintro ⟨hrx, htx⟩
    have h5 : s.state = 5 := ((txValid_iff s).mp htx).1
    have hwindow : s.state = 2 ∨ s.state = 6 := (rxReady_iff s).mp hrx
    simp [h5] at hwindow
  case strobe => exact (h.log_only_at_end hlog).imp isIn_of_state_eq isIn_of_state_eq
  case presented =>
    obtain ⟨h5, hphase⟩ := (txValid_iff s).mp htx
    have hidx : s.txIdx < s.txLen := (h.sending h5 (.inl hphase)).2
    obtain ⟨hcnt, hsentinel, -⟩ := h.frame_whole (by simp [h5])
    have hsp : s.setpointV = true := h.transmit_has_setpoint (.inl h5)
    obtain ⟨hver, hread⟩ := h.reading_is_decoded (h.setpoint_needs_reading hsp)
    obtain ⟨hlow, hhigh⟩ := h.frame_in_range (Nat.zero_lt_of_lt hidx)
    have hdata : (outputs s).txData = s.txBuf.read s.txIdx := if_pos htx
    rw [hdata]
    exact ⟨hcnt, hsentinel, hver, hread, h.setpoint_is_computed hsp, hlow, hhigh, hidx, rfl, h.tx_valid _ hidx,
      h.encoded_frame hidx⟩

end Sys2Proof.Machine
end

section
/-! PROOFS. The encoder and the decoder are inverse (O1, O2, O3). Characters by the two cases of the character decoder; frames by the
candidates of a word, of which at most one is well-formed: `'H'` is no hex digit, so it stands at one place only before the digits;
codes by their one byte. -/

namespace Sys2Proof.Machine

/-! ### Characters (R60 to R62) -/

theorem decodeChar_of_mem : ∀ p ∈ characterRows, decodeChar p.2 false = p.1 := by decide

theorem accept_of_mem : ∀ p ∈ characterRows, accept p.2 false = true := by decide

theorem encode_of_mem : ∀ p ∈ characterRows, encode p.1 = some (.ofChar p.2) := by decide

/-- The filter lets through no other byte than the nineteen (R90). -/
theorem mem_of_accept : ∀ b : Byte, accept b false = true → b ∈ characterRows.map Prod.snd := by decide

/-- A byte that is none of the nineteen is noise. -/
theorem decodeChar_of_not_mem {b : Byte} (h : b ∉ characterRows.map Prod.snd) : decodeChar b false = .noise b false := by
  simp only [decodeChar, Bool.false_eq_true, if_false]
  split
  case h_20 => rfl
  all_goals
    rename_i hb
    exact absurd (eq_ofNat_of_toNat hb ▸ by decide) h

/-- A byte decodes to its character row if it is accepted, and to noise if not. -/
theorem decodeChar_cases (b : Byte) (ferr : Bool) :
    (∃ p ∈ characterRows, ferr = false ∧ b = p.2 ∧ decodeChar b ferr = p.1) ∨
      (accept b ferr = false ∧ decodeChar b ferr = .noise b ferr) := by
  cases ferr with
  | true => exact .inr ⟨by simp [accept], rfl⟩
  | false =>
    by_cases hb : b ∈ characterRows.map Prod.snd
    · obtain ⟨p, hp, rfl⟩ := List.mem_map.mp hb
      exact .inl ⟨p, hp, rfl, rfl, decodeChar_of_mem p hp⟩
    · exact .inr ⟨Bool.eq_false_iff.mpr fun ha => hb (mem_of_accept b ha), decodeChar_of_not_mem hb⟩

theorem encode_decodeChar (b : Byte) (ferr : Bool) : encode (decodeChar b ferr) = some ⟨.char8 ferr, [b]⟩ := by
  rcases decodeChar_cases b ferr with ⟨p, hp, rfl, rfl, hrow⟩ | ⟨-, hrow⟩ <;> rw [hrow]
  · exact encode_of_mem p hp
  · rfl

theorem decodeChar_noise {b : Byte} {ferr : Bool} (h : accept b ferr = false) : decodeChar b ferr = .noise b ferr := by
  rcases decodeChar_cases b ferr with ⟨p, hp, rfl, rfl, -⟩ | ⟨-, hrow⟩
  · exact absurd (accept_of_mem p hp) (by simp [h])
  · exact hrow

/-! ### Frames (R63 to R66) -/

theorem encode_of_outboundFrame {i : Instr} {f : List Byte} (h : outboundFrame i = some f) : encode i = some (.ofFrame f) := by
  unfold outboundFrame at h
  split at h <;> cases h <;> rfl

theorem mem_candidate {c : Bool} {i j : Instr} : i ∈ candidate c j ↔ c = true ∧ i = j := by
  unfold candidate
  split <;> simp [*]

/-- A candidate of a word has the characters of the word. -/
theorem encode_of_mem_candidates {i : Instr} {f : List Byte} (h : i ∈ frameCandidates f) : encode i = some (.ofFrame f) := by
  unfold frameCandidates at h
  split at h
  case h_8 => cases h
  all_goals
    simp only [List.mem_append, mem_candidate, Bool.and_eq_true, beq_iff_eq, or_assoc] at h
    casesm* _ ∨ _, _ ∧ _ <;> subst_vars <;> rfl

/-- What a frame decodes to is one of its candidates. -/
theorem mem_candidates_of_decodeFrame {i : Instr} {f : List Byte} (h : decodeFrame f = .ok i) : i ∈ frameCandidates f := by
  unfold decodeFrame at h
  split at h
  case h_1 j hj =>
    cases h
    exact List.mem_of_find?_eq_some hj
  case h_2 =>
    split at h
    case h_1 j rest hj =>
      cases h
      simp [hj]
    case h_2 => cases h

theorem find_wf_candidate (c : Bool) (j : Instr) :
    (candidate c j).find? Instr.wf = if (c && j.wf) = true then some j else none := by
  cases c <;> cases hj : j.wf <;> simp [candidate, hj]

/-- `'H'` stands for no digit, so no digits contain it. -/
theorem hexDigits_eq_false_of_mem {ds : List Byte} (h : 0x48#8 ∈ ds) : hexDigits ds = false := by
  rw [hexDigits, List.all_eq_false]
  exact ⟨_, h, by decide⟩

theorem frameInbound_wf_of_mem {d0 d1 d2 d3 k : Byte} (h : 0x48#8 ∈ [d0, d1, d2, d3]) :
    Instr.wf (.frameInbound d0 d1 d2 d3 k) = false := by
  simp [Instr.wf, hexDigits_eq_false_of_mem h]

theorem frameOutboundPadP0_wf_of_mem {h0 h1 h2 h3 k : Byte} (h : 0x48#8 ∈ [h0, h1, h2, h3]) :
    Instr.wf (.frameOutboundPadP0 h0 h1 h2 h3 k) = false := by
  simp [Instr.wf, hexDigits_eq_false_of_mem h]

theorem frameOutboundUnpadP0D3_wf_of_mem {h1 h2 h3 k : Byte} (h : 0x48#8 ∈ [h1, h2, h3]) :
    Instr.wf (.frameOutboundUnpadP0D3 h1 h2 h3 k) = false := by
  simp [Instr.wf, hexDigits_eq_false_of_mem h]

/-- The first well-formed candidate of a well-formed frame row's characters is the row itself. -/
theorem find_wf_frameCandidates {i : Instr} {f : List Byte} (hw : i.wf = true) (h : encode i = some (.ofFrame f)) :
    (frameCandidates f).find? Instr.wf = some i := by
  cases i <;> cases h
  -- no candidate comes before it
  case frameInbound | frameAck | frameOutboundPadP0 | frameOutboundPadP1 | frameOutboundPadP2 | frameOutboundUnpadP0D1
      | frameOutboundUnpadP0D2 =>
    simp [frameCandidates, find_wf_candidate, hw]
  -- the candidates before it have other fixed characters
  case frameOutboundUnpadP0D3 | frameOutboundUnpadP1D1 | frameOutboundUnpadP1D3 | frameOutboundUnpadP2D3 =>
    simp [frameCandidates, find_wf_candidate, hw]
  -- or they take its `'H'` for a digit
  case frameOutboundUnpadP1D2 | frameOutboundUnpadP2D1 | frameOutboundUnpadP2D2 =>
    simp [frameCandidates, find_wf_candidate, hw, frameInbound_wf_of_mem, frameOutboundPadP0_wf_of_mem,
      frameOutboundUnpadP0D3_wf_of_mem]

/-- The characters of a well-formed frame row decode to it. -/
theorem decode_ofFrame {i : Instr} {f : List Byte} (hw : i.wf = true) (h : encode i = some (.ofFrame f)) :
    decode (.ofFrame f) = .ok i := by
  simp [decode, OpWord.ofFrame, decodeFrame, find_wf_frameCandidates hw h]

/-! ### Codes (R70 to R72) -/

theorem encode_decodeState (c : BitVec 4) : encode (decodeState c) = some (.ofState c) := by
  revert c; decide

theorem encode_decodePhase {c : BitVec 2} {i : Instr} (h : decodePhase c = .ok i) :
    encode i = some (.ofCode .txphase2 c.toNat) := by
  by_cases h3 : c = 3
  · cases h3
    cases h
  · rcases phase_cases h3 with rfl | rfl | rfl <;> cases h <;> rfl

theorem encode_decodeResult (c : BitVec 2) : encode (decodeResult c) = some (.ofCode .result2 c.toNat) := by
  revert c; decide

theorem encode_decodeReason (c : BitVec 3) : encode (decodeReason c) = some (.ofCode .reason3 c.toNat) := by
  revert c; decide

/-- A code that decodes is one byte, whose upper bits are 0. -/
theorem decodeCode_eq_ok {n : Nat} {bs : List Byte} {row : BitVec n → Except DecodeError Instr} {i : Instr}
    (h : decodeCode n bs row = .ok i) : ∃ c : BitVec n, bs = [BitVec.ofNat 8 c.toNat] ∧ row c = .ok i := by
  unfold decodeCode at h
  split at h
  case h_1 b =>
    split at h
    case isTrue hb => exact ⟨_, by simp [Nat.mod_eq_of_lt hb], h⟩
    case isFalse => cases h
  case h_2 => cases h

/-! ### The statements -/

/-- Settles O2: a character by its table, noise as what the filter rejects, a frame as the first well-formed candidate. -/
theorem decodeOfEncodeIsTheRow : Obligations.DecodeOfEncodeIsTheRow := by
  intro i hw hop
  cases i with
  | noise b ferr =>
    refine ⟨_, rfl, congrArg Except.ok (decodeChar_noise ?_)⟩
    simpa [Instr.wf] using hw
  | frameInbound | frameOutboundPadP0 | frameOutboundUnpadP0D1 | frameOutboundUnpadP0D2 | frameOutboundUnpadP0D3
  | frameOutboundPadP1 | frameOutboundUnpadP1D1 | frameOutboundUnpadP1D2 | frameOutboundUnpadP1D3
  | frameOutboundPadP2 | frameOutboundUnpadP2D1 | frameOutboundUnpadP2D2 | frameOutboundUnpadP2D3 | frameAck =>
    exact ⟨_, rfl, decode_ofFrame hw rfl⟩
  | stUnused c =>
    have hc : 11 ≤ c.toNat := of_decide_eq_true hw
    exact ⟨_, rfl, (decode_ofState c).trans (congrArg Except.ok (decodeState_unused hc))⟩
  | accept | rxchar | readframe | hexval | hexchar | checksum | decodeinbound | verifychecksum | decodereading
  | encodeoutbound | computesetpoint | txchar | writeframe | settxline => cases hop
  | _ => exact ⟨_, rfl, rfl⟩

/-- Settles O3, format by format. -/
theorem encodeOfDecodeIsTheWord : Obligations.EncodeOfDecodeIsTheWord := by
  rintro ⟨format, bytes⟩ i h
  cases format with
  | char8 ferr =>
    simp only [decode] at h
    split at h <;> cases h
    exact encode_decodeChar _ ferr
  | frame => exact encode_of_mem_candidates (mem_candidates_of_decodeFrame h)
  | state4 =>
    simp only [decode] at h
    obtain ⟨c, rfl, hrow⟩ := decodeCode_eq_ok h
    cases hrow
    rw [BitVec.ofNat_toNat]
    exact encode_decodeState c
  | txphase2 =>
    simp only [decode] at h
    obtain ⟨c, rfl, hrow⟩ := decodeCode_eq_ok h
    exact encode_decodePhase hrow
  | result2 =>
    simp only [decode] at h
    obtain ⟨c, rfl, hrow⟩ := decodeCode_eq_ok h
    cases hrow
    exact encode_decodeResult c
  | reason3 =>
    simp only [decode] at h
    obtain ⟨c, rfl, hrow⟩ := decodeCode_eq_ok h
    cases hrow
    exact encode_decodeReason c

/-- Settles O1, word by word. -/
theorem wordsDecodeToTheirRows : Obligations.WordsDecodeToTheirRows :=
  ⟨rfl, rfl, rfl, decode_ofFrame (by decide) rfl, decode_ofFrame (by decide) rfl, decode_ofFrame (by decide) rfl,
    decode_ofFrame rfl rfl, decode_ofState 10, decode_ofState 11, rfl, rfl, rfl, rfl, by decide, by decide⟩

end Sys2Proof.Machine
end

section
/-! PROOFS. The outbound frames: their characters (O8), what their rows load (O34), and that the `ENC` step is the row of the frame it
builds (O9). -/

namespace Sys2Proof.Machine

/-! ### Digits, with and without leading zeros (R44, R65, R68) -/

/-- The lookups are inverse (R111). -/
theorem hexval_hexchar (v : Nibble) : hexval (hexchar v) = (true, v) := by
  revert v; decide

theorem hexval_zero : hexval 0x30#8 = (true, 0#4) := by decide

/-- A leading zero adds nothing to the number. -/
theorem numberOf_zero_cons (ds : List Byte) : numberOf (0x30#8 :: ds) = numberOf ds := by
  simp [numberOf, hexval_zero]

/-- Nor to the sum of the digits. -/
theorem digitSum_zero_cons (ds : List Byte) : digitSum (0x30#8 :: ds) = digitSum ds := by
  simp [digitSum, hexval_zero]

/-- A function of the digits that no leading zero changes is the same without them. -/
theorem dropLeadingZeros_same {α : Type} {f : List Byte → α} (hf : ∀ ds, f (0x30#8 :: ds) = f ds) (ds : List Byte) :
    f (dropLeadingZeros ds) = f ds := by
  induction ds using dropLeadingZeros.induct with
  | case1 => rfl
  | case2 => rfl
  | case3 d e rest hd ih =>
    obtain rfl : d = 0x30#8 := by simpa using hd
    simpa [dropLeadingZeros, hf] using ih
  | case4 d e rest hd => simp [dropLeadingZeros, hd]

/-- What is left is a digit and fewer digits than before, and the first is zero only alone. -/
theorem dropLeadingZeros_eq_cons (d : Byte) (rest : List Byte) :
    ∃ e es, dropLeadingZeros (d :: rest) = e :: es ∧ es.length ≤ rest.length ∧ (e = 0x30 → es = []) := by
  induction rest generalizing d with
  | nil => exact ⟨d, [], rfl, le_rfl, fun _ => rfl⟩
  | cons c rest ih =>
    by_cases hd : d = 0x30#8
    · obtain ⟨e, es, heq, hlen, hzero⟩ := ih c
      exact ⟨e, es, by simpa [dropLeadingZeros, hd] using heq, Nat.le_succ_of_le hlen, hzero⟩
    · exact ⟨d, c :: rest, by simp [dropLeadingZeros, hd], le_rfl, fun h => absurd h hd⟩

theorem hexDigits_dropLeadingZeros {ds : List Byte} (h : hexDigits ds = true) : hexDigits (dropLeadingZeros ds) = true := by
  simp only [hexDigits, List.all_eq_true] at h ⊢
  exact fun c hc => h c (mem_of_mem_dropLeadingZeros hc)

/-! ### The digits of a set-point (R68, R116) -/

theorem hexDigits_spDigits (n : Nat) : hexDigits (spDigits n) = true := by
  simp [hexDigits, spDigits, hexval_hexchar]

/-- The four digits stand for the set-point. -/
theorem numberOf_spDigits {n : Nat} (h : n ≤ 65535) : numberOf (spDigits n) = n := by
  simp only [numberOf, spDigits, hexval_hexchar, spNibble, List.foldl_cons, List.foldl_nil, BitVec.toNat_ofNat]
  omega

/-- The checksum character is that of the digits' sum. -/
theorem spChecksum_eq (n : Nat) : spChecksum n = hexchar (BitVec.ofNat 4 (digitSum (spDigits n) % 16)) := by
  simp [spChecksum, checksum, digitSum, spDigits, hexval_hexchar]

/-- The digits of an outbound frame: four, or without leading zeros. -/
def outboundDigits (cfg : Config) (n : Nat) : List Byte :=
  if cfg.padHex then spDigits n else dropLeadingZeros (spDigits n)

theorem encodeFrame_eq_some {cfg : Config} {sp : Int} (h0 : 0 ≤ sp) (h1 : sp ≤ 65535) : encodeFrame cfg sp =
    some (cfg.addrPrefix ++ [0x48, 0x30] ++ outboundDigits cfg sp.toNat ++ [spChecksum sp.toNat]) :=
  if_neg (by omega)

/-- Padded or not, the digits have the number and the sum of all four. -/
theorem outboundDigits_same {α : Type} {f : List Byte → α} (hf : ∀ ds, f (0x30#8 :: ds) = f ds) (cfg : Config) (n : Nat) :
    f (outboundDigits cfg n) = f (spDigits n) := by
  unfold outboundDigits
  split
  · rfl
  · exact dropLeadingZeros_same hf _

theorem hexDigits_outboundDigits (cfg : Config) (n : Nat) : hexDigits (outboundDigits cfg n) = true := by
  unfold outboundDigits
  split
  · exact hexDigits_spDigits n
  · exact hexDigits_dropLeadingZeros (hexDigits_spDigits n)

/-- Four digits, or one to four of which the first is zero only alone. -/
theorem outboundDigits_eq_cons (cfg : Config) (n : Nat) : ∃ d ds, outboundDigits cfg n = d :: ds ∧
    (cfg.padHex = true → ds.length = 3) ∧ (cfg.padHex = false → ds.length ≤ 3 ∧ (d = 0x30 → ds = [])) := by
  unfold outboundDigits
  cases hpad : cfg.padHex with
  | true => exact ⟨_, _, rfl, fun _ => rfl, nofun⟩
  | false =>
    obtain ⟨d, ds, heq, hlen, hzero⟩ := dropLeadingZeros_eq_cons _ _
    exact ⟨d, ds, heq, nofun, fun _ => ⟨hlen, hzero⟩⟩

/-- Settles O8: what dropping leading zeros leaves as it is, and the four digits of a number. -/
theorem outboundFrameLayout : Obligations.OutboundFrameLayout := by
  intro cfg sp _
  refine ⟨fun h => if_pos h, fun h0 h1 => ?_⟩
  obtain ⟨d, ds, hds, hpad, hunpad⟩ := outboundDigits_eq_cons cfg sp.toNat
  have hsame {α : Type} {f : List Byte → α} (hf : ∀ ds, f (0x30#8 :: ds) = f ds) : f (d :: ds) = f (spDigits sp.toNat) :=
    hds ▸ outboundDigits_same hf cfg sp.toNat
  refine ⟨d, ds, spChecksum sp.toNat, hds ▸ encodeFrame_eq_some h0 h1, hds ▸ hexDigits_outboundDigits cfg _, ?number,
    hpad, hunpad, ?sum⟩
  case number => rw [hsame numberOf_zero_cons, numberOf_spDigits (by omega), Int.toNat_of_nonneg h0]
  case sum => rw [hsame digitSum_zero_cons, spChecksum_eq]

/-! ### The outbound frame rows (R64, R65, R164) -/

theorem outboundFrame_length {i : Instr} {f : List Byte} (h : outboundFrame i = some f) : f.length ≤ 9 := by
  unfold outboundFrame at h
  split at h <;> cases h <;> simp

/-- An outbound frame row is the `ENC` step with its characters. -/
theorem exec_of_outboundFrame {i : Instr} {f : List Byte} (h : outboundFrame i = some f) (s : State) :
    exec i s = sendFrame f s := by
  unfold outboundFrame at h
  split at h <;> cases h <;> rfl

theorem sendFrame_ordinary {f : List Byte} {s : State} (hs : Ordinary s) (hf : f.length ≤ 9) :
    sendFrame f s = .next (advance (withFrame f (latched s))) := by
  unfold sendFrame
  rw [stateStep_ordinary hs, loadFrame_eq hf]
  rfl

/-- Settles O34: the row loads its frame, and a run of writes is read back. -/
theorem outboundFrameRows : Obligations.OutboundFrameRows := by
  intro i f s h hs
  refine ⟨?_, fun hform => ⟨fun j hj => ?_, fun j hj => ?_⟩⟩
  · rw [exec_of_outboundFrame h, sendFrame_ordinary hs (outboundFrame_length h)]
  · simpa using Memory.read_writeList f 0 j s.txBuf hform hj
  · exact Memory.read_writeList_other f 0 j s.txBuf (.inr (by omega))

/-! ### The `ENC` step builds the frame of a row -/

theorem frameSumOk_iff (d0 d1 d2 d3 k : Byte) :
    frameSumOk d0 d1 d2 d3 k = true ↔ k = hexchar (BitVec.ofNat 4 (digitSum [d0, d1, d2, d3] % 16)) := by
  simp [frameSumOk, checksum, digitSum]

theorem eq_of_length_le_two {l : List Byte} (h : l.length ≤ 2) : l = [] ∨ (∃ a, l = [a]) ∨ ∃ a b, l = [a, b] := by
  match l with
  | [] | [_] | [_, _] => simp
  | _ :: _ :: _ :: _ => simp at h

theorem eq_of_length_le_three {l : List Byte} (h : l.length ≤ 3) :
    l = [] ∨ (∃ a, l = [a]) ∨ (∃ a b, l = [a, b]) ∨ ∃ a b c, l = [a, b, c] := by
  match l with
  | [] | [_] | [_, _] | [_, _, _] => simp
  | _ :: _ :: _ :: _ :: l => simp only [List.length_cons] at h; omega

/-- The row of a frame with the given address characters, digits and checksum character (R64, R65). -/
def outboundRow : (pre digits : List Byte) → Byte → Option Instr
  | [], [h3], k => some (.frameOutboundUnpadP0D1 h3 k)
  | [], [h2, h3], k => some (.frameOutboundUnpadP0D2 h2 h3 k)
  | [], [h1, h2, h3], k => some (.frameOutboundUnpadP0D3 h1 h2 h3 k)
  | [], [h0, h1, h2, h3], k => some (.frameOutboundPadP0 h0 h1 h2 h3 k)
  | [p], [h3], k => some (.frameOutboundUnpadP1D1 p h3 k)
  | [p], [h2, h3], k => some (.frameOutboundUnpadP1D2 p h2 h3 k)
  | [p], [h1, h2, h3], k => some (.frameOutboundUnpadP1D3 p h1 h2 h3 k)
  | [p], [h0, h1, h2, h3], k => some (.frameOutboundPadP1 p h0 h1 h2 h3 k)
  | [p, q], [h3], k => some (.frameOutboundUnpadP2D1 p q h3 k)
  | [p, q], [h2, h3], k => some (.frameOutboundUnpadP2D2 p q h2 h3 k)
  | [p, q], [h1, h2, h3], k => some (.frameOutboundUnpadP2D3 p q h1 h2 h3 k)
  | [p, q], [h0, h1, h2, h3], k => some (.frameOutboundPadP2 p q h0 h1 h2 h3 k)
  | _, _, _ => none

theorem outboundFrame_outboundRow {pre ds : List Byte} {k : Byte} {i : Instr} (h : outboundRow pre ds k = some i) :
    outboundFrame i = some (pre ++ [0x48, 0x30] ++ ds ++ [k]) := by
  unfold outboundRow at h
  split at h <;> cases h <;> rfl

/-- A legal address, one to four digits and their checksum have a row, and it is well-formed. -/
theorem exists_outboundRow {pre ds : List Byte} {d k : Byte} (hlen : pre.length ≤ 2)
    (hpre : pre.all (fun b => accept b false) = true) (hhex : hexDigits (d :: ds) = true) (hds : ds.length ≤ 3)
    (hzero : ds.length < 3 → d = 0x30 → ds = []) (hk : k = hexchar (BitVec.ofNat 4 (digitSum (d :: ds) % 16))) :
    ∃ i, i.wf = true ∧ outboundRow pre (d :: ds) k = some i := by
  obtain rfl | ⟨p, rfl⟩ | ⟨p, q, rfl⟩ := eq_of_length_le_two hlen
  all_goals
    obtain rfl | ⟨h3, rfl⟩ | ⟨h2, h3, rfl⟩ | ⟨h1, h2, h3, rfl⟩ := eq_of_length_le_three hds
  all_goals
    refine ⟨_, ?_, rfl⟩
    simp_all [Instr.wf, frameSumOk_iff, digitSum_zero_cons]

/-- What the encoder builds are the characters of a well-formed row. -/
theorem exists_row_of_encodeFrame {cfg : Config} {sp : Int} {f : List Byte} (hw : cfg.wf = true)
    (hf : encodeFrame cfg sp = some f) : ∃ i, i.wf = true ∧ outboundFrame i = some f := by
  obtain ⟨h0, h1, -, -⟩ := encodeFrame_length hw hf
  obtain ⟨d, ds, k, heq, hhex, -, hpad, hunpad, hk⟩ := (outboundFrameLayout cfg sp hw).2 h0 h1
  obtain ⟨hlen, hpre⟩ : cfg.addrPrefix.length ≤ 2 ∧ cfg.addrPrefix.all (fun b => accept b false) = true := by
    simp only [Config.wf, Bool.and_eq_true, decide_eq_true_eq] at hw
    simp only [hw, and_self]
  obtain rfl := Option.some.inj (heq.symm.trans hf)
  have hdigits : ds.length ≤ 3 ∧ (ds.length < 3 → d = 0x30 → ds = []) := by
    cases hp : cfg.padHex with
    | true => exact ⟨(hpad hp).le, fun h => absurd (hpad hp) h.ne⟩
    | false => exact ⟨(hunpad hp).1, fun _ => (hunpad hp).2⟩
  obtain ⟨i, hi, hrow⟩ := exists_outboundRow hlen hpre hhex hdigits.1 hdigits.2 hk
  exact ⟨i, hi, outboundFrame_outboundRow hrow⟩

/-- Settles O9: the frame is that of a well-formed row, and both are an edge that loads it. -/
theorem encStepIsTheFrameRow : Obligations.EncStepIsTheFrameRow := by
  intro s f hs hf
  obtain ⟨i, hi, hchars⟩ := exists_row_of_encodeFrame hs.2.2 hf
  have henc : ruleEnc (prelude s) = loadFrame f (prelude s) := by simp [ruleEnc, hf]
  refine ⟨i, decode_ofFrame hi (encode_of_outboundFrame hchars), hi, hchars, ?_⟩
  calc exec .txphEnc s = andThen (ruleEnc (prelude s)) (fun t => .next (advance t)) := stateStep_ordinary hs
    _ = sendFrame f s := by rw [henc, sendFrame, stateStep_ordinary hs]
    _ = exec i s := (exec_of_outboundFrame hchars s).symm

end Sys2Proof.Machine
end

section
/-! PROOFS. A presented byte: stored in the inbound window (O29), deciding in the acknowledgement window (O30), and ignored where the
filter rejects it (O32). A step reads the byte in a read window only, so a state with another byte at its ports makes the same step
elsewhere, and in a window if neither byte is taken. -/

namespace Sys2Proof.Machine

/-! ### Another byte at the ports -/

/-- The state with another byte (or none) presented at its ports. -/
def withByte (v : Bool) (d : Byte) (e : Bool) (s : State) : State :=
  { s with ports := { s.ports with rxValid := v, rxData := d, rxFerr := e } }

/-- The rule does not see the byte: with another one it answers the same, that byte still at the ports. -/
def IgnoresByte (v : Bool) (d : Byte) (e : Bool) (rule : State → Result) (s : State) : Prop :=
  rule (withByte v d e s) = andThen (rule s) (fun t => .next (withByte v d e t))

section Byte

variable {v : Bool} {d : Byte} {e : Bool} {s : State}

@[simp] theorem exitNow_withByte : exitNow (withByte v d e s) = exitNow s := rfl

@[simp] theorem rxTakes_withByte : rxTakes (withByte v d e s) = (v && accept d e) := rfl

@[simp] theorem dec_withByte : dec (withByte v d e s) = withByte v d e (dec s) := rfl

@[simp] theorem expired_withByte : expired (withByte v d e s) = expired s := rfl

@[simp] theorem advance_withByte : advance (withByte v d e s) = advance s := rfl

/-- Taking an entry keeps the inputs (R157). -/
theorem goto_withByte {enterY : State → State} (h : enterY (withByte v d e s) = withByte v d e (enterY s)) :
    goto enterY (withByte v d e s) = withByte v d e (goto enterY s) := by
  unfold goto
  rw [exitNow_withByte, h]
  split <;> rfl

@[simp] theorem raiseFail_withByte (r : Reason) : raiseFail r (withByte v d e s) = withByte v d e (raiseFail r s) :=
  goto_withByte rfl

theorem waitThen_withByte {enterY : State → State} (h : ∀ u, enterY (withByte v d e u) = withByte v d e (enterY u)) :
    waitThen enterY (withByte v d e s) = withByte v d e (waitThen enterY s) := by
  unfold waitThen
  rw [dec_withByte, expired_withByte, goto_withByte (h _)]
  split <;> rfl

@[simp] theorem decodeInbound_withByte : decodeInbound (withByte v d e s) = withByte v d e (decodeInbound s) := by
  have hcnt : (withByte v d e s).rxCnt = s.rxCnt := rfl
  have hbuf : (withByte v d e s).rxBuf = s.rxBuf := rfl
  unfold decodeInbound
  rw [hcnt, hbuf, raiseFail_withByte, raiseFail_withByte, goto_withByte (enterY := enterValidate) rfl]
  split_ifs <;> rfl

@[simp] theorem decideAck_withByte : decideAck (withByte v d e s) = withByte v d e (decideAck s) := by
  have hchar : (withByte v d e s).ackChar = s.ackChar := rfl
  unfold decideAck
  rw [hchar, raiseFail_withByte, goto_withByte (enterY := enterPass) rfl]
  split <;> rfl

/-! ### The rules that ignore the byte -/

theorem ruleIdle_ignoresByte : IgnoresByte v d e ruleIdle s := by
  have hstart : (withByte v d e s).ports.startReq = s.ports.startReq := rfl
  unfold IgnoresByte ruleIdle
  rw [exitNow_withByte, hstart]
  split_ifs <;> rfl

theorem rulePowerUp_ignoresByte : IgnoresByte v d e rulePowerUp s :=
  congrArg Host.Outcome.next (waitThen_withByte fun _ => rfl)

theorem ruleValidate_ignoresByte : IgnoresByte v d e ruleValidate s := by
  have hbuf : (withByte v d e s).rxBuf = s.rxBuf := rfl
  unfold IgnoresByte ruleValidate
  rw [hbuf, raiseFail_withByte, goto_withByte (enterY := enterCompute) rfl]
  split <;> rfl

theorem concludeCompute_withByte (q : Option Int) :
    concludeCompute q (withByte v d e s) = withByte v d e (concludeCompute q s) := by
  cases q with
  | none => exact raiseFail_withByte _
  | some sp => exact goto_withByte (s := { s with setpoint := sp, setpointV := true }) rfl

theorem ruleCompute_ignoresByte : IgnoresByte v d e ruleCompute s :=
  congrArg Host.Outcome.next (concludeCompute_withByte (s := recordReading s) _)

theorem writeTxFrom_ignoresByte (f : List Byte) (i : Nat) : IgnoresByte v d e (writeTxFrom i f) s := by
  induction f generalizing i s with
  | nil => rfl
  | cons c rest ih =>
    unfold IgnoresByte writeTxFrom writeTx
    split
    · exact ih (i + 1) (s := { s with txBuf := s.txBuf.write i c })
    · rfl

theorem loadFrame_ignoresByte (f : List Byte) : IgnoresByte v d e (loadFrame f) s := by
  unfold IgnoresByte loadFrame
  rw [writeTxFrom_ignoresByte]
  cases writeTxFrom 0 f s <;> rfl

theorem ruleEnc_ignoresByte : IgnoresByte v d e ruleEnc s := by
  have hframe : encodeFrame (withByte v d e s).cfg (withByte v d e s).setpoint = encodeFrame s.cfg s.setpoint := rfl
  unfold IgnoresByte ruleEnc
  rw [hframe]
  cases encodeFrame s.cfg s.setpoint with
  | none => exact congrArg Host.Outcome.next (raiseFail_withByte _)
  | some f => exact loadFrame_ignoresByte f

theorem ruleChar_ignoresByte : IgnoresByte v d e ruleChar s := by
  have hfault : (withByte v d e s).ports.xportErr = s.ports.xportErr := rfl
  have hdone : (withByte v d e s).ports.txDone = s.ports.txDone := rfl
  unfold IgnoresByte ruleChar
  rw [hfault, hdone, raiseFail_withByte]
  split_ifs <;> rfl

theorem ruleGap_ignoresByte : IgnoresByte v d e ruleGap s := by
  have hfault : (withByte v d e s).ports.xportErr = s.ports.xportErr := rfl
  have hidx : (withByte v d e s).txIdx = s.txIdx := rfl
  have hlen : (withByte v d e s).txLen = s.txLen := rfl
  unfold IgnoresByte ruleGap
  rw [hfault, hidx, hlen, raiseFail_withByte, dec_withByte, expired_withByte, goto_withByte (enterY := enterAwaitAck) rfl]
  split_ifs <;> rfl

theorem ruleTransmit_ignoresByte : IgnoresByte v d e ruleTransmit s := by
  have hphase : (withByte v d e s).txPhase = s.txPhase := rfl
  unfold IgnoresByte ruleTransmit
  rw [hphase]
  split_ifs
  · exact ruleEnc_ignoresByte
  · exact ruleChar_ignoresByte
  · exact ruleGap_ignoresByte
  · rfl

theorem ruleHold_ignoresByte : IgnoresByte v d e ruleHold s :=
  congrArg Host.Outcome.next (waitThen_withByte (s := { s with logPend := false }) fun _ => rfl)

/-- The two windows ignore the byte if neither it nor the one in its place is taken (R92). -/
theorem ruleAwaitInbound_ignoresByte (hs : rxTakes s = false) (hb : (v && accept d e) = false) :
    IgnoresByte v d e ruleAwaitInbound s := by
  have hfault : (withByte v d e s).ports.xportErr = s.ports.xportErr := rfl
  have hcnt : (withByte v d e (dec s)).rxCnt = (dec s).rxCnt := rfl
  unfold IgnoresByte ruleAwaitInbound
  rw [hfault, raiseFail_withByte, rxCharInbound_none hs, rxCharInbound_none (rxTakes_withByte.trans hb)]
  simp only [andThen_next, dec_withByte, expired_withByte, hcnt, decodeInbound_withByte]
  split_ifs <;> rfl

theorem ruleAwaitAck_ignoresByte (hs : rxTakes s = false) (hb : (v && accept d e) = false) :
    IgnoresByte v d e ruleAwaitAck s := by
  have hfault : (withByte v d e s).ports.xportErr = s.ports.xportErr := rfl
  have hack : (withByte v d e s).ackV = s.ackV := rfl
  unfold IgnoresByte ruleAwaitAck
  simp only [hfault, hack, hs, hb, rxTakes_withByte, dec_withByte, expired_withByte, raiseFail_withByte, decideAck_withByte,
    Bool.false_eq_true, if_false]
  split_ifs <;> rfl

/-! ### The step ignores the byte -/

theorem sampleConfig_withByte : sampleConfig (withByte v d e s) = (sampleConfig s).map (withByte v d e) := by
  have hlines : (withByte v d e s).ports.reconfig = s.ports.reconfig := rfl
  unfold sampleConfig
  rw [hlines]
  cases s.ports.reconfig with
  | none => rfl
  | some c =>
    dsimp only
    rw [apply_ite (Option.map (withByte v d e))]
    rfl

/-- The edge does not see the byte if its rule does not. -/
theorem clockEdge_withByte {rule : State → Result} (h : ∀ u, u.ports = s.ports → IgnoresByte v d e rule u) :
    clockEdge rule (withByte v d e s) = clockEdge rule s := by
  unfold clockEdge
  rw [sampleConfig_withByte]
  cases hs : sampleConfig s with
  | none => rfl
  | some t =>
    have ht : IgnoresByte v d e rule t := h t (sampleConfig_same hs).2.1
    have hend : andThen (rule (withByte v d e t)) (fun u => .next (advance u)) =
        andThen (rule t) (fun u => .next (advance u)) := by
      rw [ht]
      cases rule t <;> rfl
    exact if_congr Iff.rfl rfl (if_congr Iff.rfl hend rfl)

theorem stateStep_withByte {rule : State → Result} (h : ∀ u, u.ports = s.ports → IgnoresByte v d e rule u) :
    stateStep rule (withByte v d e s) = stateStep rule s :=
  clockEdge_withByte (rule := fun t => rule (prelude t)) fun u hu => h (prelude u) hu

/-- A step does not see the byte, in a window if neither byte is taken (R91, R92, R98). -/
theorem runState_withByte (h : s.state = 2 ∨ s.state = 6 → rxTakes s = false ∧ (v && accept d e) = false) :
    runState (withByte v d e s) = runState s := by
  have hnoise {u : State} (hs : s.state = 2 ∨ s.state = 6) (hu : u.ports = s.ports) :
      rxTakes u = false ∧ (v && accept d e) = false := by
    unfold rxTakes
    rw [hu]
    exact h hs
  rcases runState_eq s with ⟨hs, hr⟩ | ⟨hs, hr⟩ | ⟨hs, hr⟩ | ⟨hs, hr⟩ | ⟨hs, hr⟩ | ⟨hs, hr⟩ | ⟨hs, hr⟩ | ⟨hs, hr⟩ |
    ⟨hs, hr⟩ | ⟨hs, hr⟩ | ⟨hs, hr⟩ | ⟨hs, hr⟩
  all_goals rw [← exec_decodeState (withByte v d e s), ← exec_decodeState s, show (withByte v d e s).state = s.state from rfl]
  on_goal 12 => rw [decodeState_unused hs]; exact clockEdge_withByte fun _ _ => rfl
  all_goals rw [hs]
  · exact stateStep_withByte fun _ _ => ruleIdle_ignoresByte
  · exact stateStep_withByte fun _ _ => rulePowerUp_ignoresByte
  · exact stateStep_withByte fun _ hu => ruleAwaitInbound_ignoresByte (hnoise (.inl hs) hu).1 (hnoise (.inl hs) hu).2
  · exact stateStep_withByte fun _ _ => ruleValidate_ignoresByte
  · exact stateStep_withByte fun _ _ => ruleCompute_ignoresByte
  · exact stateStep_withByte fun _ _ => ruleTransmit_ignoresByte
  · exact stateStep_withByte fun _ hu => ruleAwaitAck_ignoresByte (hnoise (.inr hs) hu).1 (hnoise (.inr hs) hu).2
  · exact stateStep_withByte fun _ _ => ruleHold_ignoresByte
  · exact stateStep_withByte fun _ _ => ruleHold_ignoresByte
  · exact stateStep_withByte fun _ _ => rfl
  · exact clockEdge_withByte fun _ _ => rfl

end Byte

/-! ### Steps that complete -/

theorem ruleAwaitInbound_completes_none {s : State} (h : rxTakes s = false) : Completes (ruleAwaitInbound s) := by
  unfold ruleAwaitInbound
  rw [rxCharInbound_none h, andThen_next]
  split_ifs <;> exact ⟨_, rfl⟩

/-- An ordinary step with a used state and phase code completes, if the inbound window does. -/
theorem runState_completes {s : State} (ho : Ordinary s) (hcode : s.state.toNat ≤ 10) (hphase : s.txPhase ≠ 3)
    (hwindow : Completes (ruleAwaitInbound (prelude s))) : Completes (runState s) := by
  rcases runState_eq s with ⟨hs, hr⟩ | ⟨hs, hr⟩ | ⟨hs, hr⟩ | ⟨hs, hr⟩ | ⟨hs, hr⟩ | ⟨hs, hr⟩ | ⟨hs, hr⟩ | ⟨hs, hr⟩ |
    ⟨hs, hr⟩ | ⟨hs, hr⟩ | ⟨hs, hr⟩ | ⟨hs, hr⟩ <;> rw [hr]
  · exact stateStep_completes ho (ruleIdle_completes _)
  · exact stateStep_completes ho ⟨_, rfl⟩
  · exact stateStep_completes ho hwindow
  · exact stateStep_completes ho (ruleValidate_completes _)
  · exact stateStep_completes ho ⟨_, rfl⟩
  · exact stateStep_completes ho (ruleTransmit_completes ho.2.2 hphase)
  · exact stateStep_completes ho (ruleAwaitAck_completes _)
  · exact stateStep_completes ho ⟨_, rfl⟩
  · exact stateStep_completes ho ⟨_, rfl⟩
  · exact stateStep_completes ho ⟨_, rfl⟩
  · exact clockEdge_completes ho ⟨s, rfl⟩
  · omega

/-- Settles O32: the rejected byte is taken no more than none is, and a step that takes no byte has nothing to store. -/
theorem noiseIsNoByte : Obligations.NoiseIsNoByte := by
  intro s b ferr hb
  have hstep : exec (.noise b ferr) s = runState (consumeByte s) :=
    calc exec (.noise b ferr) s = runState (withByte true b ferr (consumeByte s)) := rfl
      _ = runState (consumeByte s) := runState_withByte fun _ => ⟨rfl, hb⟩
  refine ⟨hstep.trans (exec_decodeState (consumeByte s)).symm, fun ho hcode hphase => ?_⟩
  rw [hstep]
  exact runState_completes (s := consumeByte s) ho hcode hphase (ruleAwaitInbound_completes_none rfl)

/-! ### A byte taken in a window -/

/-- `goto` under the statements' name for the exit override. -/
theorem goto_eq_orExit (enterY : State → State) (s : State) : goto enterY s = orExit s enterY := rfl

/-- The end of the inbound window is one entry, under the exit override (R113). -/
theorem decodeInbound_eq_orExit (s : State) : decodeInbound s = orExit s (fun u =>
    if u.rxCnt < 6 then rowFail 1 u else if u.rxBuf.read 0 ≠ 0x47#8 then rowFail 2 u else { u with state := 3 }) := by
  rcases decodeInbound_cases s with ⟨hcnt, heq⟩ | ⟨hcnt, hsentinel, heq⟩ | ⟨hcnt, hsentinel, heq⟩ <;> rw [heq]
  · exact if_congr Iff.rfl rfl (if_pos hcnt).symm
  · exact if_congr Iff.rfl rfl ((if_neg hcnt.not_gt).trans (if_pos hsentinel)).symm
  · exact if_congr Iff.rfl rfl ((if_neg hcnt.not_gt).trans (if_neg (not_not_intro hsentinel))).symm

/-- The end of a step of the inbound window, on the state after the byte and the tick (R161). -/
theorem windowStep_eq (s : State) :
    (if s.rxCnt = 6 ∨ expired s = true then decodeInbound s else s) = windowStep s := by
  unfold windowStep
  rw [decodeInbound_eq_orExit]
  exact if_congr (or_congr Iff.rfl beq_iff_eq) rfl rfl

theorem windowStep_withByte (v : Bool) (d : Byte) (e : Bool) (s : State) :
    windowStep (withByte v d e s) = withByte v d e (windowStep s) := by
  rw [← windowStep_eq, ← windowStep_eq, decodeInbound_withByte, apply_ite (withByte v d e)]
  rfl

/-- The inbound window with room takes an accepted byte (R161). -/
theorem ruleAwaitInbound_some {s : State} (hx : s.ports.xportErr = false) (ht : rxTakes s = true) (hc : s.rxCnt < 6) :
    ruleAwaitInbound s = .next (windowStep (dec (withCharacter s.ports.rxData s))) := by
  rw [← windowStep_eq, apply_ite Host.Outcome.next]
  simp only [ruleAwaitInbound, hx, Bool.false_eq_true, if_false, rxCharInbound_some ht hc, andThen_next]
  rfl

/-- An accepted byte presented in the inbound window with room is stored and counted (R91, R92, R161). -/
theorem rxEvent_inbound {b : Byte} {s : State} (ho : Ordinary s) (hs : s.state = 2) (hc : s.rxCnt < 6)
    (hx : s.ports.xportErr = false) (hb : accept b false = true) :
    rxEvent b false s = .next (advance (windowStep { withCharacter b (latched s) with timer := timerAfter s })) := by
  have htakes : rxTakes (prelude (present b false s)) = true := hb
  calc rxEvent b false s
      = stateStep ruleAwaitInbound (present b false s) := by
        rw [rxEvent, ← exec_decodeState, present_state, hs]
        rfl
    _ = andThen (ruleAwaitInbound (prelude (present b false s))) (fun t => .next (advance t)) := stateStep_ordinary ho
    _ = .next (advance (windowStep (withByte true b false
          { withCharacter b (latched s) with timer := timerAfter s }))) := by
        rw [ruleAwaitInbound_some (s := prelude (present b false s)) hx htakes hc]
        rfl
    _ = .next (advance (windowStep { withCharacter b (latched s) with timer := timerAfter s })) := by
        rw [windowStep_withByte, advance_withByte]

/-- A character row is the event of its character (R60). -/
theorem exec_of_mem {p : Instr × Byte} (hp : p ∈ characterRows) (s : State) : exec p.1 s = rxEvent p.2 false s := by
  rw [← decodeChar_of_mem p hp, exec_decodeChar]

/-- Settles O29: each character is accepted. -/
theorem characterRowsInTheInboundWindow : Obligations.CharacterRowsInTheInboundWindow := by
  intro s ho hs hc hx p hp
  rw [exec_of_mem hp, rxEvent_inbound ho hs hc hx (accept_of_mem p hp)]

/-- An accepted byte in the acknowledgement window decides the attempt (R165). -/
theorem ruleAwaitAck_some {s : State} (hx : s.ports.xportErr = false) (hack : s.ackV = false) (ht : rxTakes s = true) :
    ruleAwaitAck s = .next (decideAck { s with ackChar := s.ports.rxData, ackV := true }) := by
  simp [ruleAwaitAck, hx, hack, ht, rxCharAck]

/-- An accepted byte presented in the open acknowledgement window is recorded and decides (R91, R92, R165). -/
theorem rxEvent_ack {b : Byte} {s : State} (ho : Ordinary s) (hs : s.state = 6) (hack : s.ackV = false)
    (hx : s.ports.xportErr = false) (hb : accept b false = true) :
    rxEvent b false s = .next (advance (decideAck { latched s with ackChar := b, ackV := true })) := by
  have htakes : rxTakes (prelude (present b false s)) = true := hb
  calc rxEvent b false s
      = stateStep ruleAwaitAck (present b false s) := by
        rw [rxEvent, ← exec_decodeState, present_state, hs]
        rfl
    _ = andThen (ruleAwaitAck (prelude (present b false s))) (fun t => .next (advance t)) := stateStep_ordinary ho
    _ = .next (advance (decideAck (withByte true b false { latched s with ackChar := b, ackV := true }))) := by
        rw [ruleAwaitAck_some (s := prelude (present b false s)) hx hack htakes]
        rfl
    _ = .next (advance (decideAck { latched s with ackChar := b, ackV := true })) := by
        rw [decideAck_withByte, advance_withByte]

/-- `'Y'` is the character of `CH_Y` alone. -/
theorem eq_chY_iff_of_mem : ∀ p ∈ characterRows, p.2 = 0x59#8 ↔ p.1 = .chY := by decide

/-- Settles O30: the decision on the recorded character, which is `'Y'` in the row `CH_Y` only. -/
theorem rowsInTheAckWindow : Obligations.RowsInTheAckWindow := by
  intro s ho hs hack hx
  have hrow : ∀ p ∈ characterRows, exec p.1 s = .next (advance (
      orExit { latched s with ackChar := p.2, ackV := true } (if p.1 = .chY then rowPass else rowFail 7))) := by
    intro p hp
    rw [exec_of_mem hp, rxEvent_ack ho hs hack hx (accept_of_mem p hp), decideAck_eq, goto_eq_orExit]
    simp only [eq_chY_iff_of_mem p hp]
    rfl
  refine ⟨hrow, ?_⟩
  calc exec .frameAck s = andThen (exec .chY s) .next := rfl
    _ = _ := by rw [hrow (.chY, 0x59) (by decide)]; rfl

end Sys2Proof.Machine
end

section
/-! PROOFS. A whole inbound frame (O33): eight ordinary steps on the listed inputs, of which five leave the window open, the sixth
ends it, and two validate and compute. -/

namespace Sys2Proof.Machine

/-! ### The listed inputs -/

theorem takeInputs_succ (n : Nat) (s : State) : takeInputs (n + 1) s = advance (takeInputs n s) := by
  induction n generalizing s with
  | zero => rfl
  | succ n ih => exact ih (advance s)

/-- After `n` of the listed inputs, the next of them stands at the ports; no register changes. -/
theorem takeInputs_eq {n : Nat} {s : State} (h : n < (listed s).length) :
    takeInputs n s = { s with ports := (listed s).getD n Inputs.idle, env := s.env.drop n, clk := s.clk + n } := by
  induction n with
  | zero => rfl
  | succ n ih =>
    have hn : n < s.env.length := by simpa using h
    rw [takeInputs_succ, ih (Nat.lt_of_succ_lt h)]
    simp [advance, hn, Nat.add_assoc]

theorem ticksOf_take_succ {n : Nat} {ins : List Inputs} (h : n < ins.length) :
    ticksOf (ins.take (n + 1)) = ticksOf (ins.take n) + (ins.getD n Inputs.idle).tick.toNat := by
  rw [List.take_succ_eq_append_getElem h, List.getD_eq_getElem _ _ h, ticksOf, List.countP_append, List.countP_singleton]
  cases ins[n].tick <;> rfl

/-! ### The frame in the buffer -/

/-- A character other than 0x00 is read back whatever the buffer holds. -/
theorem Memory.read_write_of_ne_zero {v : Byte} (hv : v ≠ 0) (m : Memory) (a : Nat) : (m.write a v).read a = v := by
  induction m with
  | nil => rw [Memory.write, if_neg hv, Memory.read, if_pos rfl]
  | cons c rest ih =>
    obtain ⟨b, w⟩ := c
    simp only [Memory.write]
    split_ifs with hlt heq
    · simp [Memory.read]
    · simp [Memory.read]
    · simp [Memory.read, Ne.symm heq, ih]

/-- So is a run of them. -/
theorem Memory.read_writeList_of_ne_zero {f : List Byte} (hf : ∀ c ∈ f, c ≠ 0) (i : Nat) {j : Nat} (m : Memory)
    (hj : j < f.length) : (m.writeList i f).read (i + j) = f[j] := by
  induction f generalizing i j m with
  | nil => cases hj
  | cons c rest ih =>
    obtain ⟨hc, hrest⟩ := List.forall_mem_cons.mp hf
    cases j with
    | zero =>
      rw [Memory.writeList, Memory.read_writeList_other _ _ _ _ (.inl (by omega)), Nat.add_zero]
      exact Memory.read_write_of_ne_zero hc m i
    | succ j =>
      rw [Memory.writeList, show i + (j + 1) = i + 1 + j by omega, ih hrest]
      rfl

theorem Memory.writeList_append (f g : List Byte) (i : Nat) (m : Memory) :
    m.writeList i (f ++ g) = (m.writeList i f).writeList (i + f.length) g := by
  induction f generalizing i m with
  | nil => rfl
  | cons c rest ih =>
    rw [List.cons_append, Memory.writeList, ih, Memory.writeList, List.length_cons, Nat.add_right_comm, Nat.add_assoc]

/-! ### Quiet steps -/

/-- The first `n` listed inputs disturb nothing and request no exit, and no exit is latched. -/
structure Quiet (n : Nat) (s : State) : Prop where
  undisturbed : UndisturbedFor n s
  noExit : exitsOf ((listed s).take n) = false
  unlatched : s.exitPend = false

/-- What a step of the block meets on a quiet input. -/
structure QuietStep (s : State) : Prop where
  ordinary : Ordinary s
  noFault : s.ports.xportErr = false
  noExit : exitNow s = false

section Quiet

variable {s : State}

theorem Quiet.lt_length {n j : Nat} (h : Quiet n s) (hj : j < n) : j < (listed s).length :=
  Nat.lt_of_lt_of_le hj h.undisturbed.1

theorem Quiet.step {n j : Nat} (h : Quiet n s) (hj : j < n) : QuietStep (takeInputs j s) := by
  have hlen := h.lt_length hj
  obtain ⟨-, hw, hall⟩ := h.undisturbed
  have hmem : (listed s).getD j Inputs.idle ∈ (listed s).take n := by
    rw [List.getD_eq_getElem _ _ hlen]
    exact List.mem_take_iff_getElem.mpr ⟨j, by omega, rfl⟩
  obtain ⟨hrst, hfault, hlines⟩ := hall _ hmem
  have hexit : ((listed s).getD j Inputs.idle).exitReq = false := by
    simpa using List.any_eq_false.mp h.noExit _ hmem
  rw [takeInputs_eq hlen]
  exact ⟨⟨hrst, hlines, hw⟩, hfault, by simp only [exitNow, h.unlatched, hexit, Bool.or_self]⟩

/-- Without an exit request the latch stays as it is. -/
theorem prelude_self (h : exitNow s = false) : prelude s = s := by
  have hpend : s.exitPend = false := (Bool.or_eq_false_iff.mp h).1
  unfold prelude
  rw [h, ← hpend]

/-- A register update that the inputs do not enter can be made before they are taken. -/
theorem takeInputs_update {g : State → State} (hg : ∀ u, g (advance u) = advance (g u)) (n : Nat) (s : State) :
    takeInputs n (g s) = g (takeInputs n s) := by
  induction n generalizing s with
  | zero => rfl
  | succ n ih => rw [takeInputs, takeInputs, ← hg, ih]

/-- A quiet step of a state whose rule makes such an update takes one input more. -/
theorem stateStep_update {rule : State → Result} {g : State → State} {j : Nat} (hq : QuietStep (takeInputs j s))
    (hg : ∀ u, g (advance u) = advance (g u)) (hrule : rule (takeInputs j s) = .next (g (takeInputs j s))) :
    stateStep rule (takeInputs j s) = .next (takeInputs (j + 1) (g s)) := by
  rw [stateStep_ordinary hq.ordinary, prelude_self hq.noExit, hrule, andThen_next, takeInputs_succ, takeInputs_update hg]

/-- Taking inputs changes no register. -/
theorem takeInputs_state (n : Nat) (s : State) : (takeInputs n s).state = s.state := by
  induction n generalizing s with
  | zero => rfl
  | succ n ih => exact ih (advance s)

theorem takeInputs_rxBuf (n : Nat) (s : State) : (takeInputs n s).rxBuf = s.rxBuf := by
  induction n generalizing s with
  | zero => rfl
  | succ n ih => exact ih (advance s)

theorem takeInputs_cfg (n : Nat) (s : State) : (takeInputs n s).cfg = s.cfg := by
  induction n generalizing s with
  | zero => rfl
  | succ n ih => exact ih (advance s)

/-! ### Receiving the characters -/

/-- The state with the characters `f` received, on as many inputs, which are not yet taken. -/
def received (f : List Byte) (s : State) : State :=
  { s with
    rxBuf := s.rxBuf.writeList 0 f, rxCnt := f.length, timer := s.timer - ticksOf ((listed s).take f.length) }

theorem received_nil (h : s.rxCnt = 0) : received [] s = s := by
  have hnil : received [] s = { s with rxCnt := 0 } := rfl
  rw [hnil, ← h]

/-- A character more is stored at the count, and the tick of its input counted. -/
theorem received_append {f : List Byte} {c : Byte} (h : f.length < (listed s).length) :
    { withCharacter c (takeInputs f.length (received f s)) with timer := timerAfter (takeInputs f.length (received f s)) } =
      takeInputs f.length (received (f ++ [c]) s) := by
  have htimer : timerAfter (takeInputs f.length (received f s)) =
      s.timer - ticksOf ((listed s).take (f.length + 1)) := by
    rw [takeInputs_eq (s := received f s) h, ticksOf_take_succ h, ← Nat.sub_sub]
    unfold timerAfter received
    cases ((listed s).getD f.length Inputs.idle).tick
    · simp
    · simp; omega
  rw [htimer, takeInputs_eq (s := received f s) h, takeInputs_eq (s := received (f ++ [c]) s) h]
  simp [withCharacter, received, Memory.writeList_append, Memory.writeList]

/-- A quiet step that receives a character: the end of the window is still to be decided. -/
theorem rxEvent_received {f : List Byte} {c : Byte} {n : Nat} (hq : Quiet n s) (hs : s.state = 2) (hn : f.length < n)
    (hroom : f.length < 6) (hc : accept c false = true) :
    rxEvent c false (takeInputs f.length (received f s)) =
      .next (advance (windowStep (takeInputs f.length (received (f ++ [c]) s)))) := by
  have hquiet : Quiet n (received f s) := { hq with }
  have hstep := hquiet.step hn
  have hstate : (takeInputs f.length (received f s)).state = 2 := (takeInputs_state _ _).trans hs
  have hcnt : (takeInputs f.length (received f s)).rxCnt < 6 := by
    rw [takeInputs_eq (s := received f s) (hq.lt_length hn)]
    exact hroom
  have hlatched : latched (takeInputs f.length (received f s)) = takeInputs f.length (received f s) :=
    prelude_self hstep.noExit
  rw [rxEvent_inbound hstep.ordinary hstate hcnt hstep.noFault hc, hlatched, received_append (hq.lt_length hn)]

/-- The window stays open while characters and ticks are missing. -/
theorem windowStep_open {u : State} (hcnt : u.rxCnt ≠ 6) (htimer : u.timer ≠ 0) : windowStep u = u :=
  if_neg (not_or_intro hcnt htimer)

/-- The window ends in `Validate` with six characters of which the first is the sentinel. -/
theorem windowStep_whole {u : State} (hcnt : u.rxCnt = 6) (hsentinel : u.rxBuf.read 0 = 0x47#8) (hexit : exitNow u = false) :
    windowStep u = enterValidate u := by
  rw [← windowStep_eq, if_pos (.inl hcnt), decodeInbound, if_neg (by omega), if_neg (not_not_intro hsentinel),
    goto_enter _ hexit]

theorem ticksOf_take_le {m n : Nat} (h : m ≤ n) (ins : List Inputs) : ticksOf (ins.take m) ≤ ticksOf (ins.take n) :=
  ((List.take_prefix_take_left h).sublist).countP_le

/-- Up to five characters are received with the window open. -/
theorem rxFrame_received {n : Nat} (hq : Quiet n s) (hs : s.state = 2) (g : List Byte) (f : List Byte)
    (hn : (f ++ g).length ≤ n) (hroom : (f ++ g).length < 6) (hc : ∀ c ∈ g, accept c false = true)
    (htimer : ticksOf ((listed s).take (f ++ g).length) < s.timer) :
    rxFrame g (takeInputs f.length (received f s)) = .next (takeInputs (f ++ g).length (received (f ++ g) s)) := by
  induction g generalizing f with
  | nil => rw [List.append_nil]; rfl
  | cons c rest ih =>
    obtain ⟨hc, hrest⟩ := List.forall_mem_cons.mp hc
    have hsplit : f ++ c :: rest = f ++ [c] ++ rest := by simp
    rw [hsplit] at hn hroom htimer ⊢
    have hlen : f.length + 1 ≤ (f ++ [c] ++ rest).length := by simp
    have hticks := ticksOf_take_le hlen (listed s)
    have hopen : windowStep (takeInputs f.length (received (f ++ [c]) s)) = takeInputs f.length (received (f ++ [c]) s) := by
      rw [takeInputs_eq (s := received (f ++ [c]) s) (hq.lt_length (by omega))]
      refine windowStep_open ?_ ?_ <;> simp only [received, List.length_append, List.length_singleton] <;> omega
    rw [rxFrame, rxEvent_received hq hs (by omega) (by omega) hc, hopen, andThen_next, ← takeInputs_succ]
    simpa using ih (f ++ [c]) hn hroom hrest htimer

theorem rxFrame_append (f g : List Byte) (s : State) : rxFrame (f ++ g) s = andThen (rxFrame f s) (rxFrame g) := by
  induction f generalizing s with
  | nil => rfl
  | cons c rest ih =>
    rw [List.cons_append, rxFrame, rxFrame]
    cases rxEvent c false s with
    | next t => exact ih t
    | fault e => rfl
    | refused e => rfl

theorem ne_zero_of_accept {c : Byte} (h : accept c false = true) : c ≠ 0 := by
  rintro rfl
  exact absurd h (by decide)

/-- The characters of the frame are read back from the buffer. -/
theorem received_read {f : List Byte} (hf : ∀ c ∈ f, accept c false = true) {j : Nat} (hj : j < f.length) :
    (received f s).rxBuf.read j = f[j] := by
  have hread := Memory.read_writeList_of_ne_zero (fun c hc => ne_zero_of_accept (hf c hc)) 0 s.rxBuf hj
  rwa [Nat.zero_add] at hread

/-- A whole frame is received on six quiet inputs, if the window is still open before the sixth. -/
theorem rxFrame_whole {d0 d1 d2 d3 k : Byte} {n : Nat} (hq : Quiet n s) (hn : 6 ≤ n) (hs : s.state = 2) (hcnt : s.rxCnt = 0)
    (hc : ∀ c ∈ [0x47, d0, d1, d2, d3, k], accept c false = true) (htimer : ticksOf ((listed s).take 5) < s.timer) :
    rxFrame [0x47, d0, d1, d2, d3, k] s =
      .next (takeInputs 6 (enterValidate (received [0x47, d0, d1, d2, d3, k] s))) := by
  have hfive : rxFrame [0x47, d0, d1, d2, d3] s = .next (takeInputs 5 (received [0x47, d0, d1, d2, d3] s)) := by
    have hfirst : ∀ c ∈ [0x47, d0, d1, d2, d3], accept c false = true := fun c hmem =>
      hc c (List.mem_append_left [k] hmem)
    simpa [received_nil hcnt, takeInputs] using
      rxFrame_received hq hs [0x47, d0, d1, d2, d3] [] (by simp; omega) (by simp) hfirst htimer
  have hsixth : rxEvent k false (takeInputs 5 (received [0x47, d0, d1, d2, d3] s)) =
      .next (advance (windowStep (takeInputs 5 (received [0x47, d0, d1, d2, d3, k] s)))) :=
    rxEvent_received (f := [0x47, d0, d1, d2, d3]) hq hs (by simp; omega) (by simp) (hc k (by simp))
  have hwhole : windowStep (takeInputs 5 (received [0x47, d0, d1, d2, d3, k] s)) =
      enterValidate (takeInputs 5 (received [0x47, d0, d1, d2, d3, k] s)) := by
    have hquiet : Quiet n (received [0x47, d0, d1, d2, d3, k] s) := { hq with }
    refine windowStep_whole ?_ ?_ (hquiet.step (by omega)).noExit
    · rw [takeInputs_eq (s := received _ s) (hq.lt_length (by omega))]
      rfl
    · rw [takeInputs_rxBuf]
      exact received_read hc (j := 0) (by simp)
  calc rxFrame [0x47, d0, d1, d2, d3, k] s
      = andThen (rxFrame [0x47, d0, d1, d2, d3] s) (rxFrame [k]) := rxFrame_append [0x47, d0, d1, d2, d3] [k] s
    _ = .next (advance (enterValidate (takeInputs 5 (received [0x47, d0, d1, d2, d3, k] s)))) := by
        rw [hfive, andThen_next, rxFrame, hsixth, hwhole]
        rfl
    _ = .next (takeInputs 6 (enterValidate (received [0x47, d0, d1, d2, d3, k] s))) := by
        rw [takeInputs_succ 5, takeInputs_update (g := enterValidate) fun _ => rfl]

/-! ### Validating and computing -/

/-- A verified frame goes on to `Compute` (R162). -/
theorem validateIfThere_verified {n j : Nat} (hq : Quiet n s) (hj : j < n) (hs : s.state = 3)
    (hver : verifyChecksum s.rxBuf = true) :
    validateIfThere (takeInputs j s) = .next (takeInputs (j + 1) (enterCompute s)) := by
  have hstep := hq.step hj
  have hstate : (takeInputs j s).state = 3 := (takeInputs_state j s).trans hs
  have hrule : ruleValidate (takeInputs j s) = .next (enterCompute (takeInputs j s)) := by
    rw [ruleValidate, takeInputs_rxBuf, if_pos hver, goto_enter _ hstep.noExit]
  calc validateIfThere (takeInputs j s) = stateStep ruleValidate (takeInputs j s) := by
        rw [validateIfThere, if_pos (isIn_of_state_eq hstate), ← exec_decodeState, hstate]
        rfl
    _ = .next (takeInputs (j + 1) (enterCompute s)) := stateStep_update hstep (g := enterCompute) (fun _ => rfl) hrule

/-- The state with the reading and the reference temperature recorded (R163). -/
def recorded (reading : BitVec 16) (tref : Int) (s : State) : State :=
  { s with reading := reading, readingV := true, refLat := tref }

/-- The step of `Compute`, once its set-point is known to be there or not. -/
theorem computeIfThere_eq {n j : Nat} {tref : Int} {g : State → State} (hq : Quiet n s) (hj : j < n) (hs : s.state = 4)
    (htref : refTemperature (takeInputs j s) = tref) (hg : ∀ u, g (advance u) = advance (g u))
    (hconclude : ∀ u, exitNow u = false →
      concludeCompute (computeSetPoint s.cfg (decodeReading s.rxBuf) tref) (recorded (decodeReading s.rxBuf) tref u) = g u) :
    computeIfThere (takeInputs j s) = .next (takeInputs (j + 1) (g s)) := by
  have hstep := hq.step hj
  have hstate : (takeInputs j s).state = 4 := (takeInputs_state j s).trans hs
  have hrecord : recordReading (takeInputs j s) = recorded (decodeReading s.rxBuf) tref (takeInputs j s) := by
    rw [recordReading, recorded, htref, takeInputs_rxBuf]
  have hrule : ruleCompute (takeInputs j s) = .next (g (takeInputs j s)) := by
    rw [ruleCompute, hrecord, htref, takeInputs_rxBuf, takeInputs_cfg]
    exact congrArg Host.Outcome.next (hconclude _ hstep.noExit)
  calc computeIfThere (takeInputs j s) = stateStep ruleCompute (takeInputs j s) := by
        rw [computeIfThere, if_pos (isIn_of_state_eq hstate), ← exec_decodeState, hstate]
        rfl
    _ = .next (takeInputs (j + 1) (g s)) := stateStep_update hstep hg hrule

theorem concludeCompute_none {u : State} (h : exitNow u = false) : concludeCompute none u = rowFail 4 u :=
  raiseFail_enter _ h

theorem concludeCompute_some {u : State} (q : Int) (h : exitNow u = false) :
    concludeCompute (some q) u = { u with setpoint := q, setpointV := true, txPhase := 0, state := 5 } :=
  goto_enter (s := { u with setpoint := q, setpointV := true }) _ h

/-- The sensor's temperature on the step, or the configured one, which fits its width (R163, R7). -/
theorem refTemperature_takeInputs {j : Nat} (hj : j < (listed s).length) (hw : s.cfg.wf = true) :
    refTemperature (takeInputs j s) =
      if s.cfg.useSensor = true then sext s.cfg.tempW ((listed s).getD j Inputs.idle).refTemp else s.cfg.refTempDefault := by
  have hfits : sext s.cfg.tempW s.cfg.refTempDefault = s.cfg.refTempDefault := by
    simp only [Config.wf, fitsSigned, Bool.and_eq_true, beq_iff_eq] at hw
    simp only [hw]
  rw [takeInputs_eq hj, refTemperature, apply_ite (sext s.cfg.tempW), hfits]

/-! ### The digits of the frame -/

theorem accept_of_hexval : ∀ c : Byte, (hexval c).1 = true → accept c false = true := by decide

/-- A well-formed inbound frame has accepted characters, verifies, and reads as the number of its digits (R63, R114, R115). -/
theorem frameInbound_facts {d0 d1 d2 d3 k : Byte} (h : Instr.wf (.frameInbound d0 d1 d2 d3 k) = true) :
    (∀ c ∈ [0x47, d0, d1, d2, d3, k], accept c false = true) ∧ verifyChars d0 d1 d2 d3 k = true ∧
      decodeChars d0 d1 d2 d3 = BitVec.ofNat 16 (numberOf [d0, d1, d2, d3]) := by
  obtain ⟨⟨h0, h1, h2, h3⟩, hk⟩ : ((hexval d0).1 = true ∧ (hexval d1).1 = true ∧ (hexval d2).1 = true ∧ (hexval d3).1 = true) ∧
      k = checksum (hexval d0).2 (hexval d1).2 (hexval d2).2 (hexval d3).2 := by
    simpa [Instr.wf, hexDigits, frameSumOk] using h
  have hnumber : numberOf [d0, d1, d2, d3] =
      (hexval d0).2.toNat * 4096 + (hexval d1).2.toNat * 256 + (hexval d2).2.toNat * 16 + (hexval d3).2.toNat := by
    simp only [numberOf, List.foldl_cons, List.foldl_nil]
    omega
  refine ⟨?_, by simp [verifyChars, h0, h1, h2, h3, hk], by simp [decodeChars, readingOf, h0, h1, h2, h3, hnumber]⟩
  simp only [List.forall_mem_cons]
  exact ⟨by decide, accept_of_hexval _ h0, accept_of_hexval _ h1, accept_of_hexval _ h2, accept_of_hexval _ h3,
    hk ▸ accept_hexchar _, nofun⟩

/-- The buffer verifies and reads as the characters received. -/
theorem received_frame {d0 d1 d2 d3 k : Byte} (hc : ∀ c ∈ [0x47, d0, d1, d2, d3, k], accept c false = true) :
    verifyChecksum (received [0x47, d0, d1, d2, d3, k] s).rxBuf = verifyChars d0 d1 d2 d3 k ∧
      decodeReading (received [0x47, d0, d1, d2, d3, k] s).rxBuf = decodeChars d0 d1 d2 d3 := by
  have hread {j : Nat} (hj : j < [0x47, d0, d1, d2, d3, k].length) := received_read (s := s) hc hj
  have h1 := hread (j := 1) (by simp)
  have h2 := hread (j := 2) (by simp)
  have h3 := hread (j := 3) (by simp)
  have h4 := hread (j := 4) (by simp)
  have h5 := hread (j := 5) (by simp)
  constructor
  · rw [verifyChecksum, h1, h2, h3, h4, h5]
    rfl
  · rw [decodeReading, h1, h2, h3, h4]
    rfl

/-- The frame row up to its last step: received, ended and verified (R161, R162). -/
theorem exec_frameInbound_received {d0 d1 d2 d3 k : Byte} (hwf : Instr.wf (.frameInbound d0 d1 d2 d3 k) = true)
    (hq : Quiet 8 s) (hs : s.state = 2) (hcnt : s.rxCnt = 0) (htimer : ticksOf ((listed s).take 5) < s.timer) :
    exec (.frameInbound d0 d1 d2 d3 k) s =
      computeIfThere (takeInputs 7 (enterCompute (received [0x47, d0, d1, d2, d3, k] s))) := by
  obtain ⟨hc, hver, -⟩ := frameInbound_facts hwf
  have hvalidate : validateIfThere (takeInputs 6 (enterValidate (received [0x47, d0, d1, d2, d3, k] s))) =
      .next (takeInputs 7 (enterCompute (received [0x47, d0, d1, d2, d3, k] s))) :=
    validateIfThere_verified (s := enterValidate (received _ s)) (n := 8) { hq with } (by decide) rfl
      ((received_frame hc).1.trans hver)
  calc exec (.frameInbound d0 d1 d2 d3 k) s
      = andThen (rxFrame [0x47, d0, d1, d2, d3, k] s) (fun t => andThen (validateIfThere t) computeIfThere) := rfl
    _ = computeIfThere (takeInputs 7 (enterCompute (received [0x47, d0, d1, d2, d3, k] s))) := by
        rw [rxFrame_whole hq (by decide) hs hcnt hc htimer, andThen_next, hvalidate, andThen_next]

end Quiet

/-- Settles O33: six characters received, then the steps of `Validate` and `Compute`. -/
theorem inboundFrameRow : Obligations.InboundFrameRow := by
  intro s d0 d1 d2 d3 k tref hwf hs hcnt hpend hund hexit htimer htref
  obtain ⟨hc, -, hnumber⟩ := frameInbound_facts hwf
  have hq : Quiet 8 s := ⟨hund, hexit, hpend⟩
  have hread := (received_frame (s := s) hc).2.trans hnumber
  have hsensor : refTemperature (takeInputs 7 (enterCompute (received [0x47, d0, d1, d2, d3, k] s))) = tref :=
    (refTemperature_takeInputs (s := enterCompute (received _ s)) (hq.lt_length (by decide)) hund.2.1).trans htref.symm
  have hcompute {g : State → State} (hg : ∀ u, g (advance u) = advance (g u)) (hconclude : ∀ u, exitNow u = false →
      concludeCompute (computeSetPoint s.cfg (BitVec.ofNat 16 (numberOf [d0, d1, d2, d3])) tref)
        (recorded (BitVec.ofNat 16 (numberOf [d0, d1, d2, d3])) tref u) = g u) :
      computeIfThere (takeInputs 7 (enterCompute (received [0x47, d0, d1, d2, d3, k] s))) =
        .next (takeInputs 8 (g (enterCompute (received [0x47, d0, d1, d2, d3, k] s)))) :=
    computeIfThere_eq (n := 8) { hq with } (by decide) rfl hsensor hg (by rwa [← hread] at hconclude)
  rw [exec_frameInbound_received hwf hq hs hcnt htimer]
  cases hsp : computeSetPoint s.cfg (BitVec.ofNat 16 (numberOf [d0, d1, d2, d3])) tref with
  | none =>
    rw [hsp] at hcompute
    exact hcompute (g := fun u => rowFail 4 (recorded _ tref u)) (fun _ => rfl)
      fun u hu => concludeCompute_none (u := recorded _ tref u) hu
  | some q =>
    rw [hsp] at hcompute
    exact hcompute
      (g := fun u => { recorded _ tref u with setpoint := q, setpointV := true, txPhase := 0, state := 5 }) (fun _ => rfl)
      fun u hu => concludeCompute_some (u := recorded _ tref u) q hu

end Sys2Proof.Machine
end

section
/-! PROOFS. The rows that write one register (O45), and the serial character format (O58). -/

namespace Sys2Proof.Machine

/-! ### The rows of one register -/

/-- A result row writes its code (R71). -/
theorem exec_resultRow (s : State) :
    ∀ p ∈ ([(.resNone, 0), (.resPending, 1), (.resPassed, 2), (.resFailed, 3)] : List (Instr × BitVec 2)),
      exec p.1 s = .next { s with result := p.2 } := by
  simp only [List.forall_mem_cons]
  exact ⟨rfl, rfl, rfl, rfl, nofun⟩

/-- Settles O45: each of these rows is its one write. -/
theorem registerRows : Obligations.RegisterRows :=
  fun s => ⟨exec_resultRow s, rfl, fun _ => rfl⟩

/-! ### The levels of a character (R69) -/

/-- The eight data bits of a character, least significant first. -/
def dataBits (b : Byte) : List Bool := (List.range 8).map (fun i => b.getLsbD i)

@[simp] theorem dataBits_length (b : Byte) : (dataBits b).length = 8 := by simp [dataBits]

theorem dataBits_getElem? {b : Byte} {i : Nat} (h : i < 8) : (dataBits b)[i]? = some (b.getLsbD i) := by
  simp [dataBits, h]

theorem serialise_eq (stopBits : Nat) (b : Byte) :
    serialise stopBits b = false :: (dataBits b ++ List.replicate stopBits true) := rfl

theorem serialise_length (stopBits : Nat) (b : Byte) : (serialise stopBits b).length = characterBitTimes stopBits := by
  simp only [serialise_eq, characterBitTimes, Config.dataBits, List.length_cons, List.length_append, dataBits_length,
    List.length_replicate]
  omega

theorem serialise_dataBit (stopBits : Nat) (b : Byte) {i : Nat} (h : i < 8) :
    (serialise stopBits b)[i + 1]? = some (b.getLsbD i) := by
  rw [serialise_eq, List.getElem?_cons_succ, List.getElem?_append_left (by simpa using h), dataBits_getElem? h]

theorem serialise_afterBits (stopBits : Nat) (b : Byte) (i : Nat) :
    (serialise stopBits b)[i + 9]? = (List.replicate stopBits true)[i]? := by
  rw [serialise_eq, List.getElem?_cons_succ, List.getElem?_append_right (by simp), dataBits_length, Nat.add_sub_cancel]

/-- The serialiser's level at each bit time: start bit, data bits, then high (R145, R146). -/
theorem serialiserLevel_eq (stopBits : Nat) (b : Byte) (n : Nat) :
    serialiserLevel stopBits (some (b, n)) = if n = 0 then false else if n ≤ 8 then b.getLsbD (n - 1) else true := by
  simp only [serialiserLevel, idleLevel, List.getD_eq_getElem?_getD]
  match n with
  | 0 => rfl
  | i + 1 =>
    by_cases hi : i < 8
    · simp [serialise_dataBit stopBits b hi, Nat.succ_le_of_lt hi]
    · obtain ⟨j, rfl⟩ := Nat.exists_eq_add_of_le' (Nat.le_of_not_lt hi)
      have hhigh : ((List.replicate stopBits true)[j]?).getD true = true := by
        rw [List.getElem?_replicate]
        split <;> rfl
      simp [serialise_afterBits stopBits b j, hhigh]

/-! ### Reading a character back (R97) -/

/-- The bits of a number, put together again. -/
theorem bitsToNat_testBit (n x : Nat) : bitsToNat ((List.range n).map x.testBit) = x % 2 ^ n := by
  induction n generalizing x with
  | zero => simp [bitsToNat, Nat.mod_one]
  | succ n ih =>
    have hrest : (List.range n).map (x.testBit ∘ Nat.succ) = (List.range n).map (x / 2).testBit := by
      simp [Function.comp_def, Nat.testBit_succ]
    rw [List.range_succ_eq_map, List.map_cons, List.map_map, hrest, bitsToNat, ih, Nat.testBit_zero, Nat.pow_succ',
      Nat.mod_mul]
    rcases Nat.mod_two_eq_zero_or_one x with h | h <;> simp [h]

theorem ofNat_bitsToNat_dataBits (b : Byte) : BitVec.ofNat 8 (bitsToNat (dataBits b)) = b := by
  have hbits : dataBits b = (List.range 8).map b.toNat.testBit := rfl
  rw [hbits, bitsToNat_testBit, Nat.mod_eq_of_lt b.isLt, BitVec.ofNat_toNat, BitVec.setWidth_eq]

/-- The transport presents the data bits, flagged if the first stop bit is low. -/
theorem deserialise_character (b : Byte) (stop : Bool) (rest : List Bool) :
    deserialise (false :: (dataBits b ++ stop :: rest)) = some (b, !stop) := by
  have hbits : (dataBits b ++ stop :: rest).take 8 = dataBits b := List.take_left' (dataBits_length b)
  have hlength : 9 ≤ 8 + (rest.length + 1) := by omega
  simp [deserialise, idleLevel, hbits, hlength, ofNat_bitsToNat_dataBits]

/-- A line that stays high has no start bit. -/
theorem deserialise_idle (n : Nat) : deserialise (List.replicate n true) = none := by
  refine if_pos (.inr ?_)
  rw [List.getD_eq_getElem?_getD, List.getElem?_replicate]
  split <;> rfl

/-- With its first stop bit low a character is still its data bits. -/
theorem serialise_set_stop (n : Nat) (b : Byte) :
    (serialise (n + 1) b).set 9 false = false :: (dataBits b ++ false :: List.replicate n true) := by
  rw [serialise_eq, List.set_cons_succ, List.set_append_right _ _ (by simp)]
  simp [List.replicate_succ]

/-- Settles O58: the levels one by one, and the byte put together from its bits. -/
theorem serialCharacterRoundTrip : Obligations.SerialCharacterRoundTrip := by
  refine ⟨fun sb b hsb => ?character, deserialise_idle, fun s => ⟨fun h x => ?idlePin, fun h => ?activePin⟩⟩
  case character =>
    obtain ⟨n, rfl⟩ : ∃ n, sb = n + 1 := ⟨sb - 1, by omega⟩
    have htimes : characterBitTimes (n + 1) = 9 + (n + 1) := rfl
    refine ⟨serialise_length _ b, htimes, rfl, fun i hi => serialise_dataBit _ b hi, fun i hi => ?_,
      deserialise_character b true _, ?_⟩
    · rw [serialise_afterBits, List.getElem?_replicate_of_lt hi]
    · rw [serialise_set_stop, deserialise_character, Bool.not_false]
  case idlePin => simp [txPin, h]
  case activePin =>
    simp only [txPin, h, if_true]
    exact ⟨rfl, fun b n => congrArg some (serialiserLevel_eq _ b n)⟩

end Sys2Proof.Machine
end

section
/-! PROOFS. The receiver's single operations: the acceptance filter (O4), the pure operations (O36), `RXCHAR` (O38), and the
characters presented outside the read windows (O31). -/

namespace Sys2Proof.Machine

/-! ### The acceptance filter (R90) -/

/-- The filter in the high and the low digit of the byte's number. -/
theorem accept_iff (b : Byte) (ferr : Bool) : accept b ferr = true ↔
    ferr = false ∧
      ((b.toNat / 16 = 3 ∧ b.toNat % 16 ≤ 9) ∨ (b.toNat / 16 = 4 ∧ 1 ≤ b.toNat % 16 ∧ b.toNat % 16 ≤ 8) ∨
        b.toNat = 0x59) := by
  have hhigh : (b.extractLsb' 4 4).toNat = b.toNat / 16 := by
    rw [BitVec.extractLsb'_toNat, Nat.shiftRight_eq_div_pow]
    have := b.isLt
    omega
  have hlow : (b.extractLsb' 0 4).toNat = b.toNat % 16 := by simp
  simp only [accept, Bool.and_eq_true, Bool.or_eq_true, Bool.not_eq_true', beq_iff_eq, decide_eq_true_eq,
    ← BitVec.toNat_inj, hhigh, hlow, BitVec.toNat_ofNat]
  simp [or_assoc, and_assoc]

/-- With no framing error the accepted bytes are those of the character rows. -/
theorem accept_iff_mem (b : Byte) : accept b false = true ↔ b ∈ characterRows.map Prod.snd := by
  refine ⟨mem_of_accept b, fun hb => ?_⟩
  obtain ⟨p, hp, rfl⟩ := List.mem_map.mp hb
  exact accept_of_mem p hp

/-- Settles O4: the bit patterns by number, the nineteen codes one by one. -/
theorem filterAcceptsTheNineteenCodes : Obligations.FilterAcceptsTheNineteenCodes :=
  fun b ferr => ⟨accept_iff b ferr, accept_iff_mem b⟩

/-! ### The pure operations -/

theorem accept_eq_any (b : Byte) (ferr : Bool) :
    accept b ferr = (!ferr && characterRows.any (fun p => p.2 == b)) := by
  cases ferr with
  | true => rfl
  | false =>
    rw [Bool.eq_iff_iff, accept_iff_mem]
    simp

/-- The checksum character is that of the digits' sum in four bits (R112). -/
theorem checksum_eq_hexchar_add (v0 v1 v2 v3 : Nibble) : checksum v0 v1 v2 v3 = hexchar (v0 + v1 + v2 + v3) := by
  have hsum : BitVec.ofNat 4 ((v0.toNat + v1.toNat + v2.toNat + v3.toNat) % 16) = v0 + v1 + v2 + v3 := by
    apply BitVec.eq_of_toNat_eq
    simp [BitVec.toNat_add]
  rw [checksum, hsum]

/-- The checksum character is that of the digit sum of the four characters (R112). -/
theorem checksum_hexval (d0 d1 d2 d3 : Byte) :
    checksum (hexval d0).2 (hexval d1).2 (hexval d2).2 (hexval d3).2 =
      hexchar (BitVec.ofNat 4 (digitSum [d0, d1, d2, d3])) := by
  have hsum : BitVec.ofNat 4 (digitSum [d0, d1, d2, d3] % 16) = BitVec.ofNat 4 (digitSum [d0, d1, d2, d3]) := by
    apply BitVec.eq_of_toNat_eq
    simp
  rw [← hsum]
  simp [checksum, digitSum]

/-- The integrity test is that of the four digits and of the checksum character (R114). -/
theorem verifyChars_eq (d0 d1 d2 d3 k : Byte) :
    verifyChars d0 d1 d2 d3 k =
      (hexDigits [d0, d1, d2, d3] && k == hexchar (BitVec.ofNat 4 (digitSum [d0, d1, d2, d3]))) := by
  rw [← checksum_hexval, BEq.comm (a := k)]
  simp [verifyChars, hexDigits, Bool.and_assoc]

/-- Four hex digit characters read as their number (R115, R67). -/
theorem decodeChars_eq {d0 d1 d2 d3 : Byte} (h : hexDigits [d0, d1, d2, d3] = true) :
    decodeChars d0 d1 d2 d3 = BitVec.ofNat 16 (numberOf [d0, d1, d2, d3]) := by
  have hdigits : ((hexval d0).1 && (hexval d1).1 && (hexval d2).1 && (hexval d3).1) = true := by
    simpa [hexDigits, and_assoc] using h
  have hnumber : numberOf [d0, d1, d2, d3] =
      (hexval d0).2.toNat * 4096 + (hexval d1).2.toNat * 256 + (hexval d2).2.toNat * 16 + (hexval d3).2.toNat := by
    simp only [numberOf, List.foldl_cons, List.foldl_nil]
    omega
  rw [decodeChars, if_pos hdigits, readingOf, hnumber]

/-- Settles O36: each row is the write of its wire, and the wire's value the function's. -/
theorem pureOperations : Obligations.PureOperations := by
  refine fun s => ⟨fun b ferr => ?filter, fun _ => rfl, fun _ => rfl, fun v0 v1 v2 v3 => ?sum, ?verify, fun h => ?reading,
    _, rfl⟩
  case filter => rw [← accept_eq_any]; rfl
  case sum => rw [← checksum_eq_hexchar_add]; rfl
  case verify => rw [← verifyChars_eq]; rfl
  case reading => rw [← decodeChars_eq h]; rfl

/-! ### `RXCHAR` -/

theorem isIn_eq_false {s : State} {y : SeqState} (h : s.state ≠ y.code) : s.isIn y = false := beq_eq_false_iff_ne.mpr h

theorem rxTakes_iff (s : State) :
    rxTakes s = true ↔ s.ports.rxValid = true ∧ accept s.ports.rxData s.ports.rxFerr = true := Bool.and_eq_true_iff

theorem execRxchar_inbound {s : State} (h : s.state = 2) :
    execRxchar s = andThen (rxCharInbound s) (fun t => .next (consumeByte t)) := if_pos (isIn_of_state_eq h)

theorem execRxchar_ack {s : State} (h : s.state = 6) : execRxchar s = .next (consumeByte (rxCharAck s)) := by
  rw [execRxchar, isIn_eq_false (by rw [h]; decide), if_neg Bool.false_ne_true, if_pos (isIn_of_state_eq h)]

theorem execRxchar_outside {s : State} (h2 : s.state ≠ 2) (h6 : s.state ≠ 6) : execRxchar s = .next s := by
  rw [execRxchar, isIn_eq_false (y := .awaitInbound) h2, isIn_eq_false (y := .awaitAck) h6, if_neg Bool.false_ne_true,
    if_neg Bool.false_ne_true]

/-- Settles O38: in each window the byte is accepted or not. -/
theorem rxcharOperation : Obligations.RxcharOperation := by
  refine fun s => ⟨fun h2 hroom => (execRxchar_inbound h2).trans ?inbound, fun h6 => (execRxchar_ack h6).trans ?ack,
    execRxchar_outside⟩
  case inbound =>
    simp only [← rxTakes_iff]
    by_cases ht : rxTakes s = true
    · rw [rxCharInbound_some ht hroom, if_pos ht]; rfl
    · rw [rxCharInbound_none (Bool.eq_false_iff.mpr ht), if_neg ht]; rfl
  case ack =>
    simp only [← rxTakes_iff]
    unfold rxCharAck
    split <;> rfl

/-! ### A byte outside the windows -/

/-- Outside the read windows the event of a byte is the step of the state (R91, R100). -/
theorem rxEvent_outside {s : State} (b : Byte) (ferr : Bool) (h2 : s.state ≠ 2) (h6 : s.state ≠ 6) :
    rxEvent b ferr s = exec (decodeState s.state) s :=
  calc rxEvent b ferr s = runState (withByte true b ferr s) := rfl
    _ = runState s := runState_withByte fun h => (h.elim h2 h6).elim
    _ = exec (decodeState s.state) s := (exec_decodeState s).symm

/-- Settles O31: a character row is the event of its character, and `NOISE` that of its byte. -/
theorem charactersOutsideTheWindows : Obligations.CharactersOutsideTheWindows := by
  intro s h2 h6 i hi
  rcases hi with hi | ⟨b, ferr, rfl⟩
  · obtain ⟨p, hp, rfl⟩ := List.mem_map.mp hi
    rw [exec_of_mem hp, rxEvent_outside _ _ h2 h6]
  · exact rxEvent_outside b ferr h2 h6

end Sys2Proof.Machine
end

section
/-! PROOFS. Operations of several steps, over the inputs they take. An operation in progress makes on every input the same kind of
step, and a run of the block's own steps does too: so what a run of undisturbed inputs does is proved once, of a register update
that is made up input by input. -/

namespace Sys2Proof.Machine

/-! ### What a run of inputs brings -/

theorem acceptedOf_append (a b : List Inputs) : acceptedOf (a ++ b) = acceptedOf a ++ acceptedOf b := List.filterMap_append

theorem ticksOf_append (a b : List Inputs) : ticksOf (a ++ b) = ticksOf a + ticksOf b := List.countP_append

theorem exitsOf_append (a b : List Inputs) : exitsOf (a ++ b) = (exitsOf a || exitsOf b) := List.any_append

/-- The byte at the ports is accepted or not (R92). -/
theorem acceptedOf_ports (s : State) : acceptedOf [s.ports] = if rxTakes s = true then [s.ports.rxData] else [] := by
  unfold acceptedOf rxTakes
  rw [List.filterMap_cons]
  split_ifs <;> rfl

theorem acceptedOf_ports_some {s : State} (h : rxTakes s = true) : acceptedOf [s.ports] = [s.ports.rxData] := by
  rw [acceptedOf_ports, if_pos h]

theorem acceptedOf_ports_none {s : State} (h : rxTakes s = false) : acceptedOf [s.ports] = [] := by
  rw [acceptedOf_ports, if_neg (Bool.eq_false_iff.mp h)]

theorem acceptedOf_length_le_one (i : Inputs) : (acceptedOf [i]).length ≤ 1 := List.length_filterMap_le _ _

theorem exitsOf_singleton (i : Inputs) : exitsOf [i] = i.exitReq := Bool.or_false _

/-- The tick of the step is the one its input brings (R175). -/
theorem dec_eq (s : State) : dec s = { s with timer := s.timer - ticksOf [s.ports] } := by
  have htimer : (dec s).timer = s.timer - ticksOf [s.ports] := by
    unfold dec ticksOf
    rw [List.countP_singleton]
    cases s.ports.tick
    · rfl
    · simp only [true_and, if_true]
      split <;> omega
  rw [← htimer]
  rfl

/-- The exit latch after the inputs `ins` (R156). -/
def latchedBy (ins : List Inputs) (s : State) : State := { s with exitPend := s.exitPend || exitsOf ins }

theorem prelude_eq (s : State) : prelude s = latchedBy [s.ports] s := by
  rw [latchedBy, exitsOf_singleton]
  rfl

/-! ### Taking the inputs -/

theorem takeInputs_add (m n : Nat) (s : State) : takeInputs n (takeInputs m s) = takeInputs (m + n) s := by
  induction n with
  | zero => rfl
  | succ n ih => rw [takeInputs_succ, ih, ← takeInputs_succ]; rfl

/-- Updates that the inputs do not enter can all be made before the inputs are taken. -/
theorem takeInputs_update_takeInputs {g : State → State} (hg : ∀ u, g (advance u) = advance (g u)) (m n : Nat) (s : State) :
    takeInputs n (g (takeInputs m s)) = takeInputs (m + n) (g s) := by
  rw [← takeInputs_update hg, takeInputs_add]

/-- What is no input is the same after inputs are taken. -/
theorem takeInputs_keeps {α : Type} {f : State → α} (hf : ∀ u, f (advance u) = f u) (n : Nat) (s : State) :
    f (takeInputs n s) = f s := by
  induction n generalizing s with
  | zero => rfl
  | succ n ih => exact (ih (advance s)).trans (hf s)

theorem listed_takeInputs {a rest : List Inputs} {i : Inputs} {s : State} (h : listed s = a ++ i :: rest) :
    listed (takeInputs a.length s) = i :: rest := by
  induction a generalizing s with
  | nil => exact h
  | cons c a ih =>
    have henv : s.env = a ++ i :: rest := (List.cons.inj h).2
    have hnext : listed (advance s) = a ++ i :: rest := by
      unfold listed advance
      rw [henv]
      cases a <;> rfl
    exact ih hnext

/-! ### Undisturbed inputs -/

/-- The state lists the inputs `ins`, none of which disturbs an operation, and an input after them. -/
structure Brings (ins : List Inputs) (s : State) : Prop where
  legal : s.cfg.wf = true
  undisturbed : ∀ i ∈ ins, Inputs.undisturbed i
  more : ∃ i rest, listed s = ins ++ i :: rest

/-- An undisturbed input stands at the ports of a legal configuration. -/
structure Meets (i : Inputs) (s : State) : Prop where
  ports : s.ports = i
  ordinary : Ordinary s
  noFault : s.ports.xportErr = false

theorem meets_takeInputs {a rest : List Inputs} {i : Inputs} {s : State} (hl : listed s = a ++ i :: rest)
    (hw : s.cfg.wf = true) (hi : Inputs.undisturbed i) : Meets i (takeInputs a.length s) := by
  have hports : (takeInputs a.length s).ports = i := (List.cons.inj (listed_takeInputs hl)).1
  obtain ⟨hrst, hfault, hlines⟩ := hi
  refine ⟨hports, ⟨?_, ?_, ?_⟩, ?_⟩
  · rw [hports, hrst]
  · rw [hports, hlines]
  · rw [takeInputs_cfg, hw]
  · rw [hports, hfault]

theorem Brings.left {a b : List Inputs} {s : State} (h : Brings (a ++ b) s) : Brings a s := by
  obtain ⟨hw, hund, i, rest, hl⟩ := h
  refine ⟨hw, fun j hj => hund j (List.mem_append_left b hj), ?_⟩
  cases b with
  | nil => exact ⟨i, rest, by rw [hl, List.append_nil]⟩
  | cons c b => exact ⟨c, b ++ i :: rest, by rw [hl, List.append_assoc, List.cons_append]⟩

/-- What is left to come after some of the inputs, whatever registers changed. -/
theorem Brings.right {a b : List Inputs} {s t : State} (h : Brings (a ++ b) s) (hlisted : listed t = listed s)
    (hcfg : t.cfg = s.cfg) : Brings b (takeInputs a.length t) := by
  obtain ⟨hw, hund, i, rest, hl⟩ := h
  have hl' : ∃ c l, b ++ i :: rest = c :: l := by cases b <;> exact ⟨_, _, rfl⟩
  obtain ⟨c, l, hcl⟩ := hl'
  refine ⟨by rw [takeInputs_cfg, hcfg, hw], fun j hj => hund j (List.mem_append_right a hj), i, rest, ?_⟩
  rw [hcl, listed_takeInputs (hlisted.trans (by rw [hl, List.append_assoc, hcl]))]

/-- The inputs may come to other registers. -/
theorem Brings.congr {ins : List Inputs} {s t : State} (h : Brings ins s) (hlisted : listed t = listed s)
    (hcfg : t.cfg = s.cfg) : Brings ins t :=
  h.right (a := []) hlisted hcfg

/-! ### A register update made up input by input -/

/-- The update `after ins` is the updates of the inputs one after another; it changes neither the inputs to come nor the
configuration. -/
structure Accumulates (after : List Inputs → State → State) : Prop where
  nil : ∀ s, after [] s = s
  append : ∀ a b s, after (a ++ b) s = after b (after a s)
  advance : ∀ ins s, after ins (advance s) = advance (after ins s)
  listed : ∀ ins s, listed (after ins s) = listed s
  cfg : ∀ ins s, (after ins s).cfg = s.cfg

theorem accumulates_latchedBy : Accumulates latchedBy where
  nil s := by simp [latchedBy, exitsOf]
  append a b s := by simp [latchedBy, exitsOf_append, Bool.or_assoc]
  advance _ _ := rfl
  listed _ _ := rfl
  cfg _ _ := rfl

section Accumulates

variable {after : List Inputs → State → State} {ins : List Inputs} {s : State}

/-- The update of one input more. -/
theorem Accumulates.after_takeInputs (ha : Accumulates after) (a : List Inputs) (i : Inputs) (s : State) :
    after [i] (takeInputs a.length (after a s)) = takeInputs a.length (after (a ++ [i]) s) := by
  rw [ha.append, takeInputs_update (ha.advance [i])]

theorem Accumulates.advance_after_takeInputs (ha : Accumulates after) (a : List Inputs) (i : Inputs) (s : State) :
    Machine.advance (after [i] (takeInputs a.length (after a s))) =
      takeInputs (a ++ [i]).length (after (a ++ [i]) s) := by
  rw [ha.after_takeInputs, ← takeInputs_succ, List.length_append, List.length_singleton]

/-- What the step on an input among others meets. -/
theorem Brings.meets (hb : Brings ins s) (ha : Accumulates after) {a : List Inputs} {i : Inputs} (hp : a ++ [i] <+: ins) :
    Meets i (takeInputs a.length (after a s)) ∧ (takeInputs a.length (after a s)).env ≠ [] := by
  obtain ⟨b, rfl⟩ := hp
  obtain ⟨hw, hund, j, rest, hl⟩ := hb
  have hl' : Machine.listed (after a s) = a ++ i :: (b ++ j :: rest) := by
    rw [ha.listed, hl, List.append_assoc, List.append_assoc, List.singleton_append]
  refine ⟨meets_takeInputs hl' (by rw [ha.cfg, hw]) (hund i (by simp)), ?_⟩
  rw [(List.cons.inj (listed_takeInputs hl')).2]
  simp

/-- What takes each input by its update takes them all by theirs: the one induction for operations and for steps. -/
theorem Brings.over_inputs {F : Nat → State → Result} (hb : Brings ins s) (ha : Accumulates after)
    (hstep : ∀ a i, a ++ [i] <+: ins → ∀ v, v = takeInputs a.length (after a s) → Meets i v → v.env ≠ [] →
      ∀ k, F (k + 1) v = F k (Machine.advance (after [i] v))) (k : Nat) :
    F (k + ins.length) s = F k (takeInputs ins.length (after ins s)) := by
  suffices h : ∀ a, a <+: ins → ∀ k, F (k + a.length) s = F k (takeInputs a.length (after a s)) from
    h ins (List.prefix_refl ins) k
  intro a
  induction a using List.reverseRecOn with
  | nil => exact fun _ k => by rw [ha.nil]; rfl
  | append_singleton a i ih =>
    intro hp k
    obtain ⟨hmeets, hlater⟩ := hb.meets ha hp
    calc F (k + (a ++ [i]).length) s = F (k + 1 + a.length) s := by
          rw [List.length_append, List.length_singleton, Nat.add_right_comm, Nat.add_assoc]
      _ = F (k + 1) (takeInputs a.length (after a s)) := ih ((List.prefix_append a [i]).trans hp) (k + 1)
      _ = F k (Machine.advance (after [i] (takeInputs a.length (after a s)))) := hstep a i hp _ rfl hmeets hlater k
      _ = F k (takeInputs (a ++ [i]).length (after (a ++ [i]) s)) := by rw [ha.advance_after_takeInputs]

/-! ### An operation in progress -/

/-- The operation from this state on, every input the state lists still to come. -/
def inProgress (edge : State → Host.Outcome (State × EdgeEnd) Fault Refusal) (s : State) : Result := manyEdges edge s.env s

variable {edge : State → Host.Outcome (State × EdgeEnd) Fault Refusal}

/-- An edge that leaves the operation in progress takes one input. -/
theorem inProgress_more {t u : State} (ho : Ordinary s) (hlater : s.env ≠ []) (he : edge s = .next (t, .more))
    (ht : Machine.advance t = Machine.advance u) (hu : u.env = s.env) :
    inProgress edge s = inProgress edge (Machine.advance u) := by
  obtain ⟨i, rest, henv⟩ := List.exists_cons_of_ne_nil hlater
  have hrest : (Machine.advance u).env = rest := by
    unfold Machine.advance
    rw [hu, henv, List.tail_cons]
  unfold inProgress
  rw [henv, manyEdges_more ho he, ht, hrest]

/-- Edges that leave the operation in progress take the inputs. -/
theorem Brings.inProgress_over (hb : Brings ins s) (ha : Accumulates after)
    (hstep : ∀ a i, a ++ [i] <+: ins → ∀ v, v = takeInputs a.length (after a s) → Meets i v →
      ∃ t, edge v = .next (t, .more) ∧ Machine.advance t = Machine.advance (after [i] v)) :
    inProgress edge s = inProgress edge (takeInputs ins.length (after ins s)) := by
  refine hb.over_inputs (F := fun _ => inProgress edge) ha (fun a i hp v hv hm hlater _ => ?_) 0
  obtain ⟨t, he, ht⟩ := hstep a i hp v hv hm
  exact inProgress_more hm.ordinary hlater he ht (List.cons.inj (ha.listed [i] v)).2

/-- Steps of the block that do so take them too. -/
theorem Brings.runSteps_over (hb : Brings ins s) (ha : Accumulates after)
    (hstep : ∀ a i, a ++ [i] <+: ins → ∀ v, v = takeInputs a.length (after a s) → Meets i v →
      step v = .next (Machine.advance (after [i] v))) (k : Nat) :
    runSteps (k + ins.length) s = runSteps k (takeInputs ins.length (after ins s)) := by
  refine hb.over_inputs (F := runSteps) ha (fun a i hp v hv hm _ k => ?_) k
  rw [runSteps, hstep a i hp v hv hm, andThen_next]

end Accumulates

/-! ### Read windows -/

/-- The window is over at no step of these inputs. -/
def StaysOpen (expected deadline : Nat) (ins : List Inputs) : Prop :=
  ∀ a, a <+: ins → a ≠ [] → ¬ WindowOver expected deadline a

/-- A claim about every nonempty beginning of a list, by their lengths. -/
theorem forall_isPrefix_of_take {l : List Inputs} {n : Nat} {P : List Inputs → Prop}
    (h : ∀ m, 0 < m → m ≤ n → P (l.take m)) : ∀ a, a <+: l.take n → a ≠ [] → P a := by
  intro a hp hne
  have hlen : a.length ≤ n := hp.length_le.trans (List.length_take_le n l)
  rw [List.prefix_iff_eq_take.mp (hp.trans (List.take_prefix n l))]
  exact h _ (List.length_pos_iff.mpr hne) hlen

section StaysOpen

variable {L T : Nat} {ins a : List Inputs}

/-- An open window lacks a character: one input brings at most one (R93). -/
theorem StaysOpen.accepted_lt (h : StaysOpen L T ins) (hL : 0 < L) (ha : a <+: ins) : (acceptedOf a).length < L := by
  induction a using List.reverseRecOn with
  | nil => exact hL
  | append_singleton a i ih =>
    have hbefore := ih ((List.prefix_append a [i]).trans ha)
    have hne : (acceptedOf (a ++ [i])).length ≠ L := fun heq => h _ ha (by simp) (.inl heq)
    have hone := acceptedOf_length_le_one i
    rw [acceptedOf_append, List.length_append] at hne ⊢
    omega

theorem StaysOpen.ticks_lt (h : StaysOpen L T ins) (ha : a <+: ins) (hne : a ≠ []) : ticksOf a < T :=
  Nat.lt_of_not_le fun hle => h a ha hne (.inr hle)

/-- An open window of one character has accepted none. -/
theorem StaysOpen.accepted_eq_nil (h : StaysOpen 1 T ins) (ha : a <+: ins) : acceptedOf a = [] :=
  List.eq_nil_of_length_eq_zero (Nat.lt_one_iff.mp (h.accepted_lt one_pos ha))

end StaysOpen

/-- The window is open over the inputs `ins` and ends with the input `i`, all of them undisturbed. -/
structure EndsWith (expected deadline : Nat) (ins : List Inputs) (i : Inputs) (s : State) : Prop where
  brings : Brings ins s
  lists : ∃ rest, listed s = ins ++ i :: rest
  last : Inputs.undisturbed i
  staysOpen : StaysOpen expected deadline ins
  ended : WindowOver expected deadline (ins ++ [i])

theorem endsWith_of_windowEndsAt {L T n : Nat} {s : State} (hund : UndisturbedFor n s)
    (hend : WindowEndsAt L T n (listed s)) :
    ∃ ins i, (listed s).take n = ins ++ [i] ∧ n = ins.length + 1 ∧ EndsWith L T ins i s := by
  obtain ⟨hpos, hlen, hover, hopen⟩ := hend
  obtain ⟨-, hw, hall⟩ := hund
  obtain ⟨m, rfl⟩ := Nat.exists_eq_add_one.mpr hpos
  have htake := List.take_succ_eq_append_getElem hlen
  have hsplit : listed s = (listed s).take m ++ (listed s)[m] :: (listed s).drop (m + 1) := by
    rw [← List.drop_eq_getElem_cons hlen, List.take_append_drop]
  rw [htake] at hover hall
  refine ⟨(listed s).take m, (listed s)[m], htake, ?_, ⟨hw, fun i hi => hall i (List.mem_append_left _ hi), _, _, hsplit⟩,
    ⟨_, hsplit⟩, hall _ (List.mem_append_right _ (List.mem_singleton_self _)), ?_, hover⟩
  · rw [List.length_take_of_le (Nat.le_of_succ_le hlen)]
  · exact forall_isPrefix_of_take fun k hk hkm => hopen k (Nat.lt_succ_of_le hkm) hk

section EndsWith

variable {L T : Nat} {ins : List Inputs} {i : Inputs} {s : State}

/-- The window may belong to other registers. -/
theorem EndsWith.congr {t : State} (h : EndsWith L T ins i s) (hlisted : listed t = listed s) (hcfg : t.cfg = s.cfg) :
    EndsWith L T ins i t :=
  { h with brings := h.brings.congr hlisted hcfg, lists := hlisted ▸ h.lists }

/-- What the last step of the window meets. -/
theorem EndsWith.meets {after : List Inputs → State → State} (h : EndsWith L T ins i s) (ha : Accumulates after) :
    Meets i (takeInputs ins.length (after ins s)) := by
  obtain ⟨rest, hl⟩ := h.lists
  exact meets_takeInputs ((ha.listed ins s).trans hl) (by rw [ha.cfg, h.brings.legal]) h.last

end EndsWith

end Sys2Proof.Machine
end

section
/-! PROOFS. `READFRAME` (O39, O40), and that it is the block's own steps to the end of the window (O59, O60). -/

namespace Sys2Proof.Machine

/-! ### The inbound window -/

/-- The registers after the inputs `ins` in the inbound window (R92, R156, R175). -/
def collected (ins : List Inputs) (s : State) : State :=
  { s with
    rxBuf := s.rxBuf.writeList s.rxCnt (acceptedOf ins), rxCnt := s.rxCnt + (acceptedOf ins).length,
    timer := s.timer - ticksOf ins, exitPend := s.exitPend || exitsOf ins }

theorem accumulates_collected : Accumulates collected where
  nil s := by simp [collected, acceptedOf, ticksOf, exitsOf, Memory.writeList]
  append a b s := by
    simp [collected, acceptedOf_append, ticksOf_append, exitsOf_append, Memory.writeList_append, Nat.add_assoc, Nat.sub_sub,
      Bool.or_assoc]
  advance _ _ := rfl
  listed _ _ := rfl
  cfg _ _ := rfl

section Inbound

variable {s : State}

/-- The byte of a step, then its tick. -/
theorem rxCharInbound_prelude (hroom : rxTakes s = true → s.rxCnt < 6) :
    ∃ t, rxCharInbound (prelude s) = .next t ∧ dec t = collected [s.ports] s := by
  cases ht : rxTakes s with
  | true =>
    refine ⟨_, rxCharInbound_some (s := prelude s) ht (hroom ht), ?_⟩
    rw [dec_eq, prelude_eq, collected, acceptedOf_ports_some ht]
    rfl
  | false =>
    refine ⟨_, rxCharInbound_none (s := prelude s) ht, ?_⟩
    rw [dec_eq, prelude_eq, collected, acceptedOf_ports_none ht]
    rfl

theorem readEdge_collected (L : Nat) (hs : s.state = 2) (hx : s.ports.xportErr = false)
    (hroom : rxTakes s = true → s.rxCnt < 6) :
    readEdge L s = .next (consumeByte (collected [s.ports] s),
      windowEnd (decide (L ≤ (collected [s.ports] s).rxCnt)) (collected [s.ports] s)) := by
  obtain ⟨t, ht, hdec⟩ := rxCharInbound_prelude hroom
  rw [readEdge_inbound L hs hx, ht, andThen_next, ← hdec]
  rfl

/-- The step of `AwaitInbound` with no transport failure (R161). -/
theorem execStAwaitinbound_collected (ho : Ordinary s) (hx : s.ports.xportErr = false)
    (hroom : rxTakes s = true → s.rxCnt < 6) :
    execStAwaitinbound s = .next (advance (windowStep (collected [s.ports] s))) := by
  obtain ⟨t, ht, hdec⟩ := rxCharInbound_prelude hroom
  have hrule : ruleAwaitInbound (prelude s) = .next (windowStep (collected [s.ports] s)) := by
    have hfault : ¬ (prelude s).ports.xportErr = true := Bool.eq_false_iff.mp hx
    rw [ruleAwaitInbound, if_neg hfault, ht, andThen_next, hdec, ← windowStep_eq, apply_ite Host.Outcome.next]
  rw [execStAwaitinbound, stateStep_ordinary ho, hrule, andThen_next]

theorem windowEnd_more {complete : Bool} (hc : complete = false) (ht : s.timer ≠ 0) : windowEnd complete s = .more :=
  if_neg (not_or_intro (Bool.eq_false_iff.mp hc) (fun he => ht (beq_iff_eq.mp he)))

theorem windowEnd_open {complete : Bool} (h : complete = true ∨ s.timer = 0) : windowEnd complete s = .openStep :=
  if_pos (h.imp_right beq_iff_eq.mpr)

end Inbound

section InboundRead

variable {L : Nat} {ins : List Inputs} {i : Inputs} {s : State}

/-- While characters of the window are missing there is room for one more. -/
theorem collected_room (hopen : StaysOpen L s.timer ins) (hL : 0 < L) (h6 : L ≤ 6) (hcnt : s.rxCnt = 0) {a : List Inputs}
    (ha : a <+: ins) : (takeInputs a.length (collected a s)).rxCnt < 6 := by
  have hlt := hopen.accepted_lt hL ha
  have hkeep : (takeInputs a.length (collected a s)).rxCnt = s.rxCnt + (acceptedOf a).length :=
    takeInputs_keeps (f := State.rxCnt) (fun _ => rfl) _ _
  omega

/-- Inputs that leave the window open leave the registers short of its end. -/
theorem collected_open (hopen : StaysOpen L s.timer ins) (hL : 0 < L) (hcnt : s.rxCnt = 0) {a : List Inputs}
    (ha : a ++ [i] <+: ins) :
    (collected [i] (takeInputs a.length (collected a s))).rxCnt < L ∧
      (collected [i] (takeInputs a.length (collected a s))).timer ≠ 0 := by
  have hlt := hopen.accepted_lt hL ha
  have hticks := hopen.ticks_lt ha (by simp)
  rw [accumulates_collected.after_takeInputs, takeInputs_keeps (f := State.rxCnt) (fun _ => rfl),
    takeInputs_keeps (f := State.timer) (fun _ => rfl)]
  constructor <;> simp only [collected] <;> omega

/-- A read takes the inputs that leave its window open. -/
theorem inProgress_collecting (hb : Brings ins s) (hopen : StaysOpen L s.timer ins) (hs : s.state = 2) (hcnt : s.rxCnt = 0)
    (hL : 0 < L) (h6 : L ≤ 6) :
    inProgress (readEdge L) s = inProgress (readEdge L) (takeInputs ins.length (collected ins s)) := by
  refine hb.inProgress_over accumulates_collected fun a i ha v hv hm => ?_
  obtain ⟨hlt, htimer⟩ := collected_open hopen hL hcnt ha
  have hroom := collected_room hopen hL h6 hcnt ((List.prefix_append a [i]).trans ha)
  have hstate : v.state = 2 := hv ▸ (takeInputs_state _ _).trans hs
  rw [← hv] at hlt htimer hroom
  have hedge := readEdge_collected L hstate hm.noFault fun _ => hroom
  rw [hm.ports, windowEnd_more (decide_eq_false hlt.not_ge) htimer] at hedge
  exact ⟨_, hedge, rfl⟩

/-- The read ends with the last input of its window. -/
theorem inProgress_collected (h : EndsWith L s.timer ins i s) (hs : s.state = 2) (hcnt : s.rxCnt = 0) (hL : 0 < L)
    (h6 : L ≤ 6) :
    inProgress (readEdge L) s = .next (readSpent (takeInputs ins.length (collected (ins ++ [i]) s))) := by
  have hm := h.meets accumulates_collected
  have hroom := collected_room h.staysOpen hL h6 hcnt (List.prefix_refl ins)
  have hstate : (takeInputs ins.length (collected ins s)).state = 2 := (takeInputs_state _ _).trans hs
  have hedge := readEdge_collected L hstate hm.noFault fun _ => hroom
  have hend : decide (L ≤ (takeInputs ins.length (collected (ins ++ [i]) s)).rxCnt) = true ∨
      (takeInputs ins.length (collected (ins ++ [i]) s)).timer = 0 := by
    rw [takeInputs_keeps (f := State.rxCnt) (fun _ => rfl), takeInputs_keeps (f := State.timer) (fun _ => rfl),
      decide_eq_true_eq]
    simp only [collected]
    rcases h.ended with hcount | hticks
    · exact .inl (by omega)
    · exact .inr (Nat.sub_eq_zero_of_le hticks)
  rw [hm.ports, accumulates_collected.after_takeInputs, windowEnd_open hend] at hedge
  rw [inProgress_collecting h.brings h.staysOpen hs hcnt hL h6, inProgress, manyEdges_open hm.ordinary hedge]
  rfl

end InboundRead

/-- The state with a read's deadline loaded (R93). -/
def armed (T : Nat) (s : State) : State := { s with timer := T }

/-- A read in the open inbound window. -/
theorem execReadframe_inbound {s : State} {L : Nat} (T : Nat) (hs : s.state = 2) (hcnt : s.rxCnt < L) :
    execReadframe L T s = inProgress (readEdge L) (armed T s) := by
  have hin : s.isIn .awaitInbound = true := isIn_of_state_eq hs
  refine execReadframe_open T (by rw [rxReady, hin, Bool.true_or]) ?_
  rw [readComplete, if_pos hin, decide_eq_false hcnt.not_ge]

/-- Where a read is over already, or has no window, it changes nothing (log entry 9). -/
theorem execReadframe_noRead {s : State} {L : Nat} (T : Nat)
    (h : (s.state ≠ 2 ∧ s.state ≠ 6) ∨ (s.state = 2 ∧ L ≤ s.rxCnt) ∨ (s.state = 6 ∧ s.ackV = true)) :
    execReadframe L T s = .next s := by
  rcases h with ⟨h2, h6⟩ | ⟨h2, hcnt⟩ | ⟨h6, hack⟩
  · refine execReadframe_outside L T ?_
    rw [rxReady, isIn_eq_false (y := .awaitInbound) h2, isIn_eq_false (y := .awaitAck) h6, Bool.false_or]
  · refine execReadframe_complete T ?_
    rw [readComplete, if_pos (isIn_of_state_eq h2), decide_eq_true hcnt]
  · refine execReadframe_complete T ?_
    rw [readComplete, isIn_eq_false (by rw [h6]; decide), if_neg Bool.false_ne_true, hack]

/-- Settles O39: the inputs before the last leave the read in progress, and the last one ends it. -/
theorem readFrameCollectsTheAcceptedCharacters : Obligations.ReadFrameCollectsTheAcceptedCharacters := by
  refine ⟨fun s L T n hs hcnt hL h6 hund hend => ?_, fun s L T h => execReadframe_noRead T h⟩
  obtain ⟨ins, i, htake, rfl, hends⟩ := endsWith_of_windowEndsAt hund hend
  have hends' : EndsWith L (armed T s).timer ins i (armed T s) := hends.congr rfl rfl
  refine (execReadframe_inbound T hs (by omega)).trans ?_
  rw [inProgress_collected hends' hs hcnt hL h6, htake, Nat.add_sub_cancel]
  simp only [collected, armed, hcnt, Nat.zero_add]

/-! ### The acknowledgement window -/

/-- The registers after the inputs `ins` of a wait (R156, R175). -/
def waited (ins : List Inputs) (s : State) : State :=
  { s with timer := s.timer - ticksOf ins, exitPend := s.exitPend || exitsOf ins }

theorem accumulates_waited : Accumulates waited where
  nil s := by simp [waited, ticksOf, exitsOf]
  append a b s := by simp [waited, ticksOf_append, exitsOf_append, Nat.sub_sub, Bool.or_assoc]
  advance _ _ := rfl
  listed _ _ := rfl
  cfg _ _ := rfl

theorem dec_prelude (s : State) : dec (prelude s) = waited [s.ports] s := by
  rw [dec_eq, prelude_eq]
  rfl

/-- The state with the one character of the acknowledgement window (R92). -/
def acked (c : Byte) (s : State) : State := { s with ackChar := c, ackV := true }

section Ack

variable {s : State}

theorem ackEdge_none (ht : rxTakes s = false) :
    ackEdge (prelude s) = (waited [s.ports] s, windowEnd false (waited [s.ports] s)) := by
  have htakes : ¬ rxTakes (prelude s) = true := Bool.eq_false_iff.mp ht
  rw [ackEdge, if_neg htakes, dec_prelude]

theorem ackEdge_some (ht : rxTakes s = true) :
    ackEdge (prelude s) = (acked s.ports.rxData (prelude s), .openStep) := by
  have htakes : rxTakes (prelude s) = true := ht
  rw [ackEdge, if_pos htakes, rxCharAck, if_pos htakes]
  rfl

/-- The step of `AwaitAck` on which its character comes (R165). -/
theorem execStAwaitack_some (ho : Ordinary s) (hx : s.ports.xportErr = false) (hack : s.ackV = false)
    (ht : rxTakes s = true) :
    execStAwaitack s = .next (advance (decideAck (acked s.ports.rxData (prelude s)))) := by
  rw [execStAwaitack, stateStep_ordinary ho, ruleAwaitAck_some (s := prelude s) hx hack ht]
  rfl

/-- The step of `AwaitAck` without a character (R165). -/
theorem execStAwaitack_none (ho : Ordinary s) (hx : s.ports.xportErr = false) (hack : s.ackV = false)
    (ht : rxTakes s = false) :
    execStAwaitack s = .next (advance (
      if (waited [s.ports] s).timer = 0 then raiseFail .unverified (waited [s.ports] s) else waited [s.ports] s)) := by
  have hrule : ruleAwaitAck (prelude s) = .next (
      if (waited [s.ports] s).timer = 0 then raiseFail .unverified (waited [s.ports] s) else waited [s.ports] s) := by
    have hfault : ¬ (prelude s).ports.xportErr = true := Bool.eq_false_iff.mp hx
    have hack' : ¬ (prelude s).ackV = true := Bool.eq_false_iff.mp hack
    have htakes : ¬ rxTakes (prelude s) = true := Bool.eq_false_iff.mp ht
    rw [ruleAwaitAck, if_neg hfault, if_neg hack', if_neg htakes, dec_prelude, apply_ite Host.Outcome.next]
    exact if_congr beq_iff_eq rfl rfl
  rw [execStAwaitack, stateStep_ordinary ho, hrule, andThen_next]

/-- The step of `AwaitAck` with its character in already: it decides (log entry 9). -/
theorem execStAwaitack_answered (ho : Ordinary s) (hack : s.ackV = true) :
    execStAwaitack s = .next (advance (
      if s.ports.xportErr = true then raiseFail .transportError (prelude s) else decideAck (prelude s))) := by
  have hack' : (prelude s).ackV = true := hack
  have hrule : ruleAwaitAck (prelude s) = .next (
      if s.ports.xportErr = true then raiseFail .transportError (prelude s) else decideAck (prelude s)) := by
    rw [ruleAwaitAck, if_pos hack', apply_ite Host.Outcome.next]
    rfl
  rw [execStAwaitack, stateStep_ordinary ho, hrule, andThen_next]

end Ack

section AckRead

variable {L : Nat} {ins : List Inputs} {i : Inputs} {s : State}

/-- An input that leaves the window open brings no character and leaves a tick missing. -/
theorem waited_open (hopen : StaysOpen 1 s.timer ins) {a : List Inputs} (ha : a ++ [i] <+: ins) {v : State}
    (hv : v = takeInputs a.length (waited a s)) (hports : v.ports = i) :
    rxTakes v = false ∧ (waited [v.ports] v).timer ≠ 0 := by
  have hnone : acceptedOf [v.ports] = [] := by
    have hall := hopen.accepted_eq_nil ha
    rw [acceptedOf_append] at hall
    rw [hports, (List.append_eq_nil_iff.mp hall).2]
  have hticks := hopen.ticks_lt ha (by simp)
  constructor
  · exact Bool.eq_false_iff.mpr fun ht => List.cons_ne_nil _ _ ((acceptedOf_ports_some ht).symm.trans hnone)
  · rw [hports, hv, accumulates_waited.after_takeInputs, takeInputs_keeps (f := State.timer) (fun _ => rfl)]
    exact Nat.sub_ne_zero_of_lt hticks

/-- A read takes the inputs that leave its window open, whatever length is asked for. -/
theorem inProgress_waiting (hb : Brings ins s) (hopen : StaysOpen 1 s.timer ins) (hs : s.state = 6) :
    inProgress (readEdge L) s = inProgress (readEdge L) (takeInputs ins.length (waited ins s)) := by
  refine hb.inProgress_over accumulates_waited fun a i ha v hv hm => ?_
  obtain ⟨ht, htimer⟩ := waited_open hopen ha hv hm.ports
  have hstate : v.state = 6 := hv ▸ (takeInputs_state _ _).trans hs
  have hedge := readEdge_ack L hstate hm.noFault
  rw [ackEdge_none ht, windowEnd_more rfl htimer, hm.ports] at hedge
  exact ⟨_, hedge, rfl⟩

/-- How the acknowledgement window ends: with its character, or with its deadline. -/
theorem EndsWith.ack_cases (h : EndsWith 1 s.timer ins i s) {v : State} (hv : v = takeInputs ins.length (waited ins s)) :
    (rxTakes v = true ∧ acceptedOf (ins ++ [i]) = [v.ports.rxData]) ∨
    (rxTakes v = false ∧ acceptedOf (ins ++ [i]) = [] ∧ (waited [v.ports] v).timer = 0) := by
  have hports : v.ports = i := hv ▸ (h.meets accumulates_waited).ports
  have hlast : acceptedOf (ins ++ [i]) = acceptedOf [v.ports] := by
    rw [acceptedOf_append, h.staysOpen.accepted_eq_nil (List.prefix_refl ins), List.nil_append, hports]
  cases ht : rxTakes v with
  | true => exact .inl ⟨rfl, hlast.trans (acceptedOf_ports_some ht)⟩
  | false =>
    have hnone := hlast.trans (acceptedOf_ports_none ht)
    refine .inr ⟨rfl, hnone, ?_⟩
    rw [hports, hv, accumulates_waited.after_takeInputs, takeInputs_keeps (f := State.timer) (fun _ => rfl)]
    rcases h.ended with hcount | hticks
    · rw [hnone] at hcount
      exact absurd hcount Nat.zero_ne_one
    · exact Nat.sub_eq_zero_of_le hticks

/-- The read ends with the last input of its window: the edge of that input, its rule still to run. -/
theorem inProgress_waited (h : EndsWith 1 s.timer ins i s) (hs : s.state = 6) {v : State}
    (hv : v = takeInputs ins.length (waited ins s)) :
    inProgress (readEdge L) s = .next (readSpent (ackEdge (prelude v)).1) := by
  have hm : Meets i v := hv ▸ h.meets accumulates_waited
  have hstate : v.state = 6 := hv ▸ (takeInputs_state _ _).trans hs
  have hopen : (ackEdge (prelude v)).2 = .openStep := by
    rcases h.ack_cases hv with ⟨ht, -⟩ | ⟨ht, -, htimer⟩
    · rw [ackEdge_some ht]
    · rw [ackEdge_none ht]
      exact windowEnd_open (.inr htimer)
  have hedge := readEdge_ack L hstate hm.noFault
  rw [hopen] at hedge
  rw [inProgress_waiting h.brings h.staysOpen hs, ← hv, inProgress, manyEdges_open hm.ordinary hedge]
  rfl

end AckRead

/-- A read in the open acknowledgement window. -/
theorem execReadframe_ack {s : State} (L T : Nat) (hs : s.state = 6) (hack : s.ackV = false) :
    execReadframe L T s = inProgress (readEdge L) (armed T s) := by
  refine execReadframe_open T (by rw [rxReady, isIn_of_state_eq (y := .awaitAck) hs, Bool.or_true]) ?_
  rw [readComplete, isIn_eq_false (by rw [hs]; decide), if_neg Bool.false_ne_true, hack]

/-- Settles O40: the last input brings the character or the last tick. -/
theorem readFrameOfOneCharacter : Obligations.ReadFrameOfOneCharacter := by
  intro s L T n hs hack hund hend
  obtain ⟨ins, i, htake, rfl, hends⟩ := endsWith_of_windowEndsAt hund hend
  have hends' : EndsWith 1 (armed T s).timer ins i (armed T s) := hends.congr rfl rfl
  have hprev : (listed s).take ins.length = ins := by
    obtain ⟨rest, hl⟩ := hends.lists
    rw [hl, List.take_left' rfl]
  have hports : (takeInputs ins.length (waited ins (armed T s))).ports = i :=
    (hends'.meets accumulates_waited).ports
  refine (execReadframe_ack L T hs hack).trans ?_
  rw [inProgress_waited hends' hs rfl, htake, Nat.add_sub_cancel, hprev]
  congr 2
  rcases hends'.ack_cases rfl with ⟨ht, hchar⟩ | ⟨ht, hnone, -⟩
  · rw [ackEdge_some ht, hchar, prelude_eq, hports]
    simp only [exitsOf_append, ← Bool.or_assoc]
    exact (takeInputs_update (g := fun u => acked i.rxData (latchedBy [i] u)) (fun _ => rfl) _ _).symm
  · rw [ackEdge_none ht, hnone, hports, accumulates_waited.after_takeInputs]
    rfl

end Sys2Proof.Machine
end

section
/-! PROOFS. `READFRAME` and the rest of its last step are the block's own steps to the end of the window (O59, O60). Both take the
inputs that leave the window open by the same register update; on the last input the read stores what the step stores, and the rest
of the step, which meets neither the byte nor the tick again, takes the entry that the step takes. -/

namespace Sys2Proof.Machine

/-! ### The rest of the last step -/

@[simp] theorem advance_readSpent (s : State) : advance (readSpent s) = advance s := rfl

/-- Taking an entry looks at the exit pin only, which stays at the ports (R157). -/
theorem goto_readSpent {enterY : State → State} {s : State} (h : enterY (readSpent s) = readSpent (enterY s)) :
    goto enterY (readSpent s) = readSpent (goto enterY s) := by
  unfold goto
  rw [h, apply_ite readSpent]
  rfl

theorem raiseFail_readSpent (r : Reason) (s : State) : raiseFail r (readSpent s) = readSpent (raiseFail r s) :=
  goto_readSpent rfl

theorem decideAck_readSpent (s : State) : decideAck (readSpent s) = readSpent (decideAck s) := by
  have hchar : (readSpent s).ackChar = s.ackChar := rfl
  unfold decideAck
  rw [hchar, raiseFail_readSpent, goto_readSpent (enterY := enterPass) rfl, ← apply_ite readSpent]

theorem windowStep_readSpent (s : State) : windowStep (readSpent s) = readSpent (windowStep s) := by
  unfold windowStep
  rw [← goto_eq_orExit, ← goto_eq_orExit, apply_ite readSpent]
  refine if_congr Iff.rfl (goto_readSpent ?_) rfl
  change (if s.rxCnt < 6 then _ else if s.rxBuf.read 0 ≠ 0x47#8 then _ else _) = _
  split_ifs <;> rfl

theorem rxTakes_readSpent (s : State) : rxTakes (readSpent s) = false := rfl

/-- The exit request left at the ports was latched already. -/
theorem prelude_readSpent {s : State} (hlatched : (s.exitPend || s.ports.exitReq) = s.exitPend) :
    prelude (readSpent s) = readSpent s := by
  unfold prelude
  rw [show exitNow (readSpent s) = s.exitPend from hlatched]
  rfl

/-- What is left at the ports brings no tick. -/
theorem waited_readSpent {s : State} (hlatched : (s.exitPend || s.ports.exitReq) = s.exitPend) :
    waited [(readSpent s).ports] (readSpent s) = readSpent s := by
  rw [← dec_prelude, prelude_readSpent hlatched]
  rfl

/-- What is left at the ports brings no character either. -/
theorem collected_readSpent {s : State} (hlatched : (s.exitPend || s.ports.exitReq) = s.exitPend) :
    collected [(readSpent s).ports] (readSpent s) = readSpent s := by
  rw [collected, acceptedOf_ports_none (rxTakes_readSpent s)]
  exact waited_readSpent hlatched

/-- A step latches the request that its input brings (R156). -/
theorem latched_exit (s : State) :
    (s.exitPend || exitsOf [s.ports] || s.ports.exitReq) = (s.exitPend || exitsOf [s.ports]) := by
  rw [exitsOf_singleton, Bool.or_assoc, Bool.or_self]

/-! ### One step of the block -/

theorem runSteps_one (s : State) : runSteps 1 s = step s := by
  rw [runSteps]
  cases step s <;> rfl

theorem step_awaitInbound {s : State} (hslot : s.slot = none) (hs : s.state = 2) : step s = execStAwaitinbound s := by
  rw [step_eq_runState hslot, ← exec_decodeState, hs]
  rfl

theorem step_awaitAck {s : State} (hslot : s.slot = none) (hs : s.state = 6) : step s = execStAwaitack s := by
  rw [step_eq_runState hslot, ← exec_decodeState, hs]
  rfl

theorem takeInputs_slot (n : Nat) (s : State) : (takeInputs n s).slot = s.slot := takeInputs_keeps (fun _ => rfl) n s

/-! ### The inbound window -/

section Inbound

variable {ins : List Inputs} {i : Inputs} {s : State}

/-- The block's steps take the inputs that leave the window open. -/
theorem runSteps_collecting (hb : Brings ins s) (hopen : StaysOpen 6 s.timer ins) (hslot : s.slot = none)
    (hs : s.state = 2) (hcnt : s.rxCnt = 0) (k : Nat) :
    runSteps (k + ins.length) s = runSteps k (takeInputs ins.length (collected ins s)) := by
  refine hb.runSteps_over accumulates_collected (fun a i ha v hv hm => ?_) k
  obtain ⟨hlt, htimer⟩ := collected_open hopen (by decide) hcnt ha
  have hroom := collected_room hopen (by decide) le_rfl hcnt ((List.prefix_append a [i]).trans ha)
  have hvslot : v.slot = none := hv ▸ (takeInputs_slot _ _).trans hslot
  have hvstate : v.state = 2 := hv ▸ (takeInputs_state _ _).trans hs
  rw [← hv] at hlt htimer hroom
  rw [step_awaitInbound hvslot hvstate, execStAwaitinbound_collected hm.ordinary hm.noFault fun _ => hroom, hm.ports,
    windowStep_open hlt.ne htimer]

/-- The rest of the last step of a read takes the entry of the step that stored its byte. -/
theorem execStAwaitinbound_readSpent (ho : Ordinary s) (hx : s.ports.xportErr = false)
    (hroom : rxTakes s = true → s.rxCnt < 6) :
    execStAwaitinbound (readSpent (collected [s.ports] s)) = execStAwaitinbound s := by
  rw [execStAwaitinbound_collected ho hx hroom,
    execStAwaitinbound_collected (s := readSpent (collected [s.ports] s)) ho hx (fun ht => absurd ht Bool.false_ne_true),
    collected_readSpent (latched_exit s), windowStep_readSpent, advance_readSpent]

end Inbound

/-- Settles O59: the same update over the inputs before the last, and the same last step. -/
theorem readFrameIsTheInboundWindow : Obligations.ReadFrameIsTheInboundWindow := by
  intro s n hslot hs hcnt hund hend
  obtain ⟨ins, i, -, rfl, hends⟩ := endsWith_of_windowEndsAt hund hend
  have hm := hends.meets accumulates_collected
  have hroom := collected_room hends.staysOpen (by decide) le_rfl hcnt (List.prefix_refl ins)
  have hvslot := (takeInputs_slot ins.length (collected ins s)).trans hslot
  have hvstate := (takeInputs_state ins.length (collected ins s)).trans hs
  have hread : execReadframe 6 s.timer s =
      .next (readSpent (collected [i] (takeInputs ins.length (collected ins s)))) := by
    rw [accumulates_collected.after_takeInputs, ← inProgress_collected hends hs hcnt (by decide) le_rfl]
    exact execReadframe_inbound s.timer hs (by omega)
  have hrest := execStAwaitinbound_readSpent hm.ordinary hm.noFault fun _ => hroom
  rw [hm.ports] at hrest
  calc andThen (exec (.readframe 6 s.timer) s) (exec .stAwaitinbound)
      = andThen (execReadframe 6 s.timer s) execStAwaitinbound := rfl
    _ = execStAwaitinbound (takeInputs ins.length (collected ins s)) := by rw [hread, andThen_next, hrest]
    _ = runSteps 1 (takeInputs ins.length (collected ins s)) := by rw [runSteps_one, step_awaitInbound hvslot hvstate]
    _ = runSteps (ins.length + 1) s := by
        rw [← runSteps_collecting hends.brings hends.staysOpen hslot hs hcnt, Nat.add_comm]

/-! ### The acknowledgement window -/

section Ack

variable {ins : List Inputs} {i : Inputs} {s : State}

/-- The block's steps take the inputs that leave the window open. -/
theorem runSteps_waiting (hb : Brings ins s) (hopen : StaysOpen 1 s.timer ins) (hslot : s.slot = none) (hs : s.state = 6)
    (hack : s.ackV = false) (k : Nat) :
    runSteps (k + ins.length) s = runSteps k (takeInputs ins.length (waited ins s)) := by
  refine hb.runSteps_over accumulates_waited (fun a i ha v hv hm => ?_) k
  obtain ⟨ht, htimer⟩ := waited_open hopen ha hv hm.ports
  have hvslot : v.slot = none := hv ▸ (takeInputs_slot _ _).trans hslot
  have hvstate : v.state = 6 := hv ▸ (takeInputs_state _ _).trans hs
  have hvack : v.ackV = false := hv ▸ (takeInputs_keeps (f := State.ackV) (fun _ => rfl) _ _).trans hack
  rw [step_awaitAck hvslot hvstate, execStAwaitack_none hm.ordinary hm.noFault hvack ht, if_neg htimer, hm.ports]

/-- The rest of the last step of a read decides as the step that took its character does, or by the deadline. -/
theorem execStAwaitack_readSpent (ho : Ordinary s) (hx : s.ports.xportErr = false) (hack : s.ackV = false) :
    execStAwaitack (readSpent (ackEdge (prelude s)).1) = execStAwaitack s := by
  cases ht : rxTakes s with
  | true =>
    have hlatched : (prelude s).exitPend = (s.exitPend || exitsOf [s.ports]) := by rw [prelude_eq, latchedBy]
    have hprelude : prelude (readSpent (acked s.ports.rxData (prelude s))) = readSpent (acked s.ports.rxData (prelude s)) := by
      refine prelude_readSpent ?_
      change ((prelude s).exitPend || s.ports.exitReq) = (prelude s).exitPend
      rw [hlatched, latched_exit]
    have hfault : ¬ (readSpent (acked s.ports.rxData (prelude s))).ports.xportErr = true := Bool.eq_false_iff.mp hx
    rw [ackEdge_some ht, execStAwaitack_some ho hx hack ht,
      execStAwaitack_answered (s := readSpent (acked s.ports.rxData (prelude s))) ho rfl, if_neg hfault, hprelude,
      decideAck_readSpent, advance_readSpent]
  | false =>
    rw [ackEdge_none ht, execStAwaitack_none ho hx hack ht,
      execStAwaitack_none (s := readSpent (waited [s.ports] s)) ho hx hack rfl, waited_readSpent (latched_exit s),
      raiseFail_readSpent, ← apply_ite readSpent, advance_readSpent]
    rfl

end Ack

/-- A window that has its character is decided by it, under the exit override (log entry 9). -/
theorem exec_stAwaitack_answered {s : State} (ho : Ordinary s) (hack : s.ackV = true) :
    exec .stAwaitack s = .next (advance (orExit (latched s)
      (if s.ports.xportErr = true then rowFail 6 else if s.ackChar = 0x59#8 then rowPass else rowFail 7))) := by
  refine (execStAwaitack_answered ho hack).trans ?_
  rw [raiseFail, decideAck_eq, goto_eq_orExit, goto_eq_orExit, ← apply_ite (orExit (prelude s))]
  rfl

/-- Settles O60: the same update over the inputs before the last, and the same last step. -/
theorem readFrameIsTheAckWindow : Obligations.ReadFrameIsTheAckWindow := by
  refine ⟨fun s n hslot hs hack hund hend => ?_, fun s ho hack => exec_stAwaitack_answered ho hack⟩
  obtain ⟨ins, i, -, rfl, hends⟩ := endsWith_of_windowEndsAt hund hend
  have hm := hends.meets accumulates_waited
  have hvslot := (takeInputs_slot ins.length (waited ins s)).trans hslot
  have hvstate := (takeInputs_state ins.length (waited ins s)).trans hs
  have hvack : (takeInputs ins.length (waited ins s)).ackV = false :=
    (takeInputs_keeps (f := State.ackV) (fun _ => rfl) _ _).trans hack
  have hread : execReadframe 1 s.timer s =
      .next (readSpent (ackEdge (prelude (takeInputs ins.length (waited ins s)))).1) :=
    (execReadframe_ack 1 s.timer hs hack).trans (inProgress_waited hends hs rfl)
  calc andThen (exec (.readframe 1 s.timer) s) (exec .stAwaitack)
      = andThen (execReadframe 1 s.timer s) execStAwaitack := rfl
    _ = execStAwaitack (takeInputs ins.length (waited ins s)) := by
        rw [hread, andThen_next, execStAwaitack_readSpent hm.ordinary hm.noFault hvack]
    _ = runSteps 1 (takeInputs ins.length (waited ins s)) := by rw [runSteps_one, step_awaitAck hvslot hvstate]
    _ = runSteps (ins.length + 1) s := by
        rw [← runSteps_waiting hends.brings hends.staysOpen hslot hs hack, Nat.add_comm]

end Sys2Proof.Machine
end

section
/-! PROOFS. A write in progress, character by character and round by round, and the transport failure that ends a read or a write
(O41). -/

namespace Sys2Proof.Machine

/-! ### Presenting a character -/

/-- The edge of `TXCHAR`. -/
def presentEdge (s : State) : Host.Outcome (State × EdgeEnd) Fault Refusal := .next (charEdge .closedStep (prelude s))

/-- The edge of `WRITEFRAME`. -/
def writingEdge (s : State) : Host.Outcome (State × EdgeEnd) Fault Refusal := .next (writeEdge s)

/-- The state with the character at `tx_idx` presented (R140). -/
def presenting (s : State) : State := { s with txPhase := 1 }

/-- The state with the first character presented (R141). -/
def presentingFirst (s : State) : State := { s with txIdx := 0, txPhase := 1 }

theorem execTxchar_transmit {s : State} (hs : s.state = 5) : execTxchar s = inProgress presentEdge (presenting s) :=
  if_pos (isIn_of_state_eq hs)

theorem execWriteframe_transmit {s : State} (hs : s.state = 5) (hlen : 0 < s.txLen) :
    execWriteframe s = inProgress writingEdge (presentingFirst s) := if_pos ⟨isIn_of_state_eq hs, hlen⟩

section Edge

variable {s : State} {onDone : EdgeEnd}

/-- The transport has not answered: the character stays presented (R140). -/
theorem charEdge_waiting (hx : s.ports.xportErr = false) (hd : s.ports.txDone = false) :
    charEdge onDone (prelude s) = (latchedBy [s.ports] s, .more) := by
  have hfault : ¬ (prelude s).ports.xportErr = true := Bool.eq_false_iff.mp hx
  have hdone : ¬ (prelude s).ports.txDone = true := Bool.eq_false_iff.mp hd
  rw [charEdge, if_neg hfault, if_neg hdone, prelude_eq]

/-- The registers once a character is answered, after the inputs `ins`: its gap begins (R140). -/
def answeredBy (ins : List Inputs) (s : State) : State :=
  { latchedBy ins s with timer := s.cfg.txGapTicks, txPhase := 2 }

theorem answeredBy_append_latchedBy (a b : List Inputs) (s : State) :
    answeredBy (a ++ b) s = answeredBy b (latchedBy a s) := by
  rw [answeredBy, accumulates_latchedBy.append]
  rfl

theorem charEdge_done (hx : s.ports.xportErr = false) (hd : s.ports.txDone = true) :
    charEdge onDone (prelude s) = (answeredBy [s.ports] s, onDone) := by
  have hfault : ¬ (prelude s).ports.xportErr = true := Bool.eq_false_iff.mp hx
  have hdone : (prelude s).ports.txDone = true := hd
  rw [charEdge, if_neg hfault, if_pos hdone, prelude_eq]
  rfl

theorem charEdge_fault (hx : s.ports.xportErr = true) :
    charEdge onDone (prelude s) = (raiseFail .transportError (prelude s), .closedStep) := if_pos hx

/-- The gap goes on while ticks are missing (R141). -/
theorem gapEdge_more (hx : s.ports.xportErr = false) (ht : (waited [s.ports] s).timer ≠ 0) :
    gapEdge (prelude s) = (waited [s.ports] s, .more) := by
  have hfault : ¬ (prelude s).ports.xportErr = true := Bool.eq_false_iff.mp hx
  have hexpired : ¬ expired (waited [s.ports] s) = true := fun he => ht (beq_iff_eq.mp he)
  rw [gapEdge, if_neg hfault, dec_prelude, if_neg hexpired]

/-- The registers once the gap of a character before the last is over, after the inputs `ins`: the next one is presented
(R141). -/
def nextPresented (ins : List Inputs) (s : State) : State :=
  { latchedBy ins s with timer := 0, txIdx := s.txIdx + 1, txPhase := 1 }

theorem nextPresented_append_waited (a b : List Inputs) (s : State) :
    nextPresented (a ++ b) s = nextPresented b (waited a s) := by
  rw [nextPresented, accumulates_latchedBy.append]
  rfl

theorem nextPresented_append_answeredBy (a b : List Inputs) (s : State) :
    nextPresented (a ++ b) s = nextPresented b (answeredBy a s) := by
  rw [nextPresented, accumulates_latchedBy.append]
  rfl

theorem gapEdge_next (hx : s.ports.xportErr = false) (ht : (waited [s.ports] s).timer = 0) (hidx : s.txIdx + 1 ≠ s.txLen) :
    gapEdge (prelude s) = (nextPresented [s.ports] s, .more) := by
  have hfault : ¬ (prelude s).ports.xportErr = true := Bool.eq_false_iff.mp hx
  have hexpired : expired (waited [s.ports] s) = true := beq_iff_eq.mpr ht
  have hlast : ¬ (prelude s).txIdx + 1 = (prelude s).txLen := hidx
  rw [gapEdge, if_neg hfault, dec_prelude, if_pos hexpired, if_neg hlast, nextPresented, latchedBy, ← ht]
  rfl

theorem gapEdge_fault (hx : s.ports.xportErr = true) :
    gapEdge (prelude s) = (raiseFail .transportError (prelude s), .closedStep) := if_pos hx

theorem writingEdge_char (hp : s.txPhase = 1) : writingEdge s = .next (charEdge .more (prelude s)) := by
  rw [writingEdge, writeEdge, if_neg (by rw [hp]; decide)]

theorem writingEdge_gap (hp : s.txPhase = 2) : writingEdge s = .next (gapEdge (prelude s)) := by
  rw [writingEdge, writeEdge, if_pos (c := s.txPhase = TxPhase.gap.code) hp]

theorem presentEdge_fault (hx : s.ports.xportErr = true) :
    presentEdge s = .next (raiseFail .transportError (prelude s), .closedStep) := by
  rw [presentEdge, charEdge_fault hx]

/-- In either phase a transport failure ends the write (R143). -/
theorem writingEdge_fault (hx : s.ports.xportErr = true) :
    writingEdge s = .next (raiseFail .transportError (prelude s), .closedStep) := by
  rw [writingEdge, writeEdge, gapEdge_fault hx, charEdge_fault hx, ite_self]

end Edge

/-! ### Runs of inputs in a write -/

section Write

variable {ins waiting gap : List Inputs} {i done : Inputs} {s : State}

theorem takeInputs_txPhase (n : Nat) (s : State) : (takeInputs n s).txPhase = s.txPhase := takeInputs_keeps (fun _ => rfl) n s

/-- A character that is presented stays so while the transport does not answer. -/
theorem inProgress_presenting {edge : State → Host.Outcome (State × EdgeEnd) Fault Refusal} {onDone : EdgeEnd}
    (hedge : ∀ u, u.txPhase = 1 → edge u = .next (charEdge onDone (prelude u))) (hb : Brings ins s) (hp : s.txPhase = 1)
    (hwait : ∀ j ∈ ins, j.txDone = false) :
    inProgress edge s = inProgress edge (takeInputs ins.length (latchedBy ins s)) := by
  refine hb.inProgress_over accumulates_latchedBy fun a j ha v hv hm => ?_
  have hphase : v.txPhase = 1 := hv ▸ (takeInputs_txPhase _ _).trans hp
  have hdone : v.ports.txDone = false := hm.ports ▸ hwait j (ha.subset (by simp))
  exact ⟨_, by rw [hedge v hphase, charEdge_waiting hm.noFault hdone, hm.ports], rfl⟩

/-- A gap stays while ticks are missing. -/
theorem inProgress_gap (hb : Brings ins s) (hp : s.txPhase = 2) (hopen : ∀ a, a <+: ins → a ≠ [] → ticksOf a < s.timer) :
    inProgress writingEdge s = inProgress writingEdge (takeInputs ins.length (waited ins s)) := by
  refine hb.inProgress_over accumulates_waited fun a j ha v hv hm => ?_
  have hphase : v.txPhase = 2 := hv ▸ (takeInputs_txPhase _ _).trans hp
  have htimer : (waited [v.ports] v).timer ≠ 0 := by
    rw [hm.ports, hv, accumulates_waited.after_takeInputs, takeInputs_keeps (f := State.timer) (fun _ => rfl)]
    exact Nat.sub_ne_zero_of_lt (hopen _ ha (by simp))
  exact ⟨_, by rw [writingEdge_gap hphase, gapEdge_more hm.noFault htimer, hm.ports], rfl⟩

/-- One more input that leaves the operation in progress, after inputs that do. -/
theorem inProgress_append_singleton {edge : State → Host.Outcome (State × EdgeEnd) Fault Refusal}
    {after : List Inputs → State → State} {g : State → State} (ha : Accumulates after) (hb : Brings (ins ++ [i]) s)
    (hbefore : inProgress edge s = inProgress edge (takeInputs ins.length (after ins s)))
    (hedge : ∀ v, v = takeInputs ins.length (after ins s) → Meets i v → edge v = .next (g v, .more))
    (hg : ∀ u, g (advance u) = advance (g u)) (henv : ∀ u, (g u).env = u.env) :
    inProgress edge s = inProgress edge (takeInputs (ins ++ [i]).length (g (after ins s))) := by
  obtain ⟨hm, hlater⟩ := hb.meets ha (List.prefix_refl _)
  rw [hbefore, inProgress_more hm.ordinary hlater (hedge _ rfl hm) rfl (henv _), ← takeInputs_update hg, ← takeInputs_succ,
    List.length_append, List.length_singleton]

/-- A character of a write until its answer (R140). -/
theorem inProgress_answered (hb : Brings (waiting ++ [done]) s) (hp : s.txPhase = 1)
    (hwait : ∀ j ∈ waiting, j.txDone = false) (hdone : done.txDone = true) :
    inProgress writingEdge s =
      inProgress writingEdge (takeInputs (waiting ++ [done]).length (answeredBy (waiting ++ [done]) s)) := by
  rw [answeredBy_append_latchedBy]
  refine inProgress_append_singleton (g := answeredBy [done]) accumulates_latchedBy hb
    (inProgress_presenting (fun _ => writingEdge_char) hb.left hp hwait) (fun v hv hm => ?_) (fun _ => rfl) (fun _ => rfl)
  have hphase : v.txPhase = 1 := hv ▸ (takeInputs_txPhase _ _).trans hp
  rw [writingEdge_char hphase, charEdge_done hm.noFault (hm.ports ▸ hdone), hm.ports]

/-- The gap of a character before the last, to its end (R141). -/
theorem inProgress_gapOver (hb : Brings (gap ++ [i]) s) (hp : s.txPhase = 2)
    (hopen : ∀ a, a <+: gap → a ≠ [] → ticksOf a < s.timer) (hover : s.timer ≤ ticksOf (gap ++ [i]))
    (hidx : s.txIdx + 1 ≠ s.txLen) :
    inProgress writingEdge s = inProgress writingEdge (takeInputs (gap ++ [i]).length (nextPresented (gap ++ [i]) s)) := by
  rw [nextPresented_append_waited]
  refine inProgress_append_singleton (g := nextPresented [i]) accumulates_waited hb (inProgress_gap hb.left hp hopen)
    (fun v hv hm => ?_) (fun _ => rfl) (fun _ => rfl)
  have hphase : v.txPhase = 2 := hv ▸ (takeInputs_txPhase _ _).trans hp
  have hvidx : v.txIdx + 1 ≠ v.txLen := by
    rw [hv, takeInputs_keeps (f := State.txIdx) (fun _ => rfl), takeInputs_keeps (f := State.txLen) (fun _ => rfl)]
    exact hidx
  have htimer : (waited [v.ports] v).timer = 0 := by
    rw [hm.ports, hv, accumulates_waited.after_takeInputs, takeInputs_keeps (f := State.timer) (fun _ => rfl)]
    exact Nat.sub_eq_zero_of_le hover
  rw [writingEdge_gap hphase, gapEdge_next hm.noFault htimer hvidx, hm.ports]

/-- A character of a write until its answer, and inputs that leave its gap open. -/
theorem inProgress_answeredGap (hb : Brings (waiting ++ [done] ++ gap) s) (hp : s.txPhase = 1)
    (hwait : ∀ j ∈ waiting, j.txDone = false) (hdone : done.txDone = true)
    (hopen : ∀ a, a <+: gap → a ≠ [] → ticksOf a < s.cfg.txGapTicks) :
    inProgress writingEdge s = inProgress writingEdge
      (takeInputs (waiting ++ [done] ++ gap).length (waited gap (answeredBy (waiting ++ [done]) s))) := by
  have htimer : (takeInputs (waiting ++ [done]).length (answeredBy (waiting ++ [done]) s)).timer = s.cfg.txGapTicks :=
    takeInputs_keeps (f := State.timer) (fun _ => rfl) _ _
  rw [inProgress_answered hb.left hp hwait hdone,
    inProgress_gap (hb.right (t := answeredBy (waiting ++ [done]) s) rfl rfl) (takeInputs_txPhase _ _) (htimer ▸ hopen),
    takeInputs_update_takeInputs (accumulates_waited.advance gap), ← List.length_append]

/-- A legal gap is a run of inputs that leaves it open and the input that ends it (R141). -/
theorem gap_split_of_legal {gapTicks : Nat} {r : WriteRound} (h : r.legal gapTicks) :
    ∃ gap i, r.gap = gap ++ [i] ∧ gapTicks ≤ ticksOf (gap ++ [i]) ∧ ∀ a, a <+: gap → a ≠ [] → ticksOf a < gapTicks := by
  obtain ⟨-, -, hpos, hover, hopen⟩ := h
  have hsplit := List.dropLast_append_getLast (List.length_pos_iff.mp hpos)
  refine ⟨r.gap.dropLast, r.gap.getLast (List.length_pos_iff.mp hpos), hsplit.symm, hsplit.symm ▸ hover, ?_⟩
  rw [List.dropLast_eq_take]
  exact forall_isPrefix_of_take (P := fun a => ticksOf a < gapTicks) fun m hm hlt => hopen m (by omega) hm

/-- A round of a write: a character before the last and its gap. -/
theorem inProgress_round {r : WriteRound} (hb : Brings r.inputs s) (hlegal : r.legal s.cfg.txGapTicks) (hp : s.txPhase = 1)
    (hidx : s.txIdx + 1 ≠ s.txLen) :
    inProgress writingEdge s = inProgress writingEdge (takeInputs r.inputs.length (nextPresented r.inputs s)) := by
  obtain ⟨gap, i, hgap, hover, hopen⟩ := gap_split_of_legal hlegal
  have hinputs : r.inputs = (r.waiting ++ [r.done]) ++ (gap ++ [i]) := by
    rw [WriteRound.inputs, hgap, List.append_assoc, List.singleton_append]
  rw [hinputs] at hb ⊢
  rw [inProgress_answered hb.left hp hlegal.1 hlegal.2.1]
  obtain ⟨v, hv⟩ : ∃ v, v = takeInputs (r.waiting ++ [r.done]).length (answeredBy (r.waiting ++ [r.done]) s) := ⟨_, rfl⟩
  have hbgap : Brings (gap ++ [i]) v := hv ▸ hb.right rfl rfl
  have hphase : v.txPhase = 2 := hv ▸ takeInputs_txPhase _ _
  have htimer : v.timer = s.cfg.txGapTicks := hv ▸ takeInputs_keeps (f := State.timer) (fun _ => rfl) _ _
  have hvidx : v.txIdx + 1 ≠ v.txLen := by
    rw [hv, takeInputs_keeps (f := State.txIdx) (fun _ => rfl), takeInputs_keeps (f := State.txLen) (fun _ => rfl)]
    exact hidx
  rw [← hv, inProgress_gapOver hbgap hphase (htimer ▸ hopen) (htimer ▸ hover) hvidx, hv,
    takeInputs_update_takeInputs (g := nextPresented (gap ++ [i])) (fun _ => rfl), ← List.length_append,
    nextPresented_append_answeredBy (r.waiting ++ [r.done])]

/-- The registers once the rounds `rs` are over: the character after them is presented. -/
def roundsWritten (rs : List WriteRound) (s : State) : State :=
  { latchedBy (roundInputs rs) s with
    timer := if rs.isEmpty then s.timer else 0, txIdx := s.txIdx + rs.length, txPhase := 1 }

theorem roundsWritten_nil (hp : s.txPhase = 1) : roundsWritten [] s = s := by
  rw [roundsWritten, roundInputs, List.flatMap_nil, accumulates_latchedBy.nil, ← hp]
  rfl

theorem roundsWritten_cons (r : WriteRound) (rs : List WriteRound) (s : State) :
    roundsWritten (r :: rs) s = roundsWritten rs (nextPresented r.inputs s) := by
  have hidx : s.txIdx + (r :: rs).length = s.txIdx + 1 + rs.length := by rw [List.length_cons]; omega
  have htimer : (0 : Nat) = if rs.isEmpty then (nextPresented r.inputs s).timer else 0 := (ite_self 0).symm
  rw [roundsWritten, roundsWritten, hidx, ← htimer, roundInputs, List.flatMap_cons, accumulates_latchedBy.append]
  rfl

/-- The rounds of the characters before the last. -/
theorem inProgress_rounds (rs : List WriteRound) (hb : Brings (roundInputs rs) s)
    (hlegal : ∀ r ∈ rs, r.legal s.cfg.txGapTicks) (hp : s.txPhase = 1) (hidx : s.txIdx + rs.length < s.txLen) :
    inProgress writingEdge s = inProgress writingEdge (takeInputs (roundInputs rs).length (roundsWritten rs s)) := by
  induction rs generalizing s with
  | nil =>
    rw [roundsWritten_nil hp]
    rfl
  | cons r rs ih =>
    obtain ⟨hr, hrs⟩ := List.forall_mem_cons.mp hlegal
    have hb' : Brings (r.inputs ++ roundInputs rs) s := hb
    rw [List.length_cons] at hidx
    rw [inProgress_round hb'.left hr hp (by omega)]
    obtain ⟨v, hv⟩ : ∃ v, v = takeInputs r.inputs.length (nextPresented r.inputs s) := ⟨_, rfl⟩
    have hbrest : Brings (roundInputs rs) v := hv ▸ hb'.right rfl rfl
    have hphase : v.txPhase = 1 := hv ▸ takeInputs_txPhase _ _
    have hcfg : v.cfg = s.cfg := hv ▸ takeInputs_cfg _ _
    have hvidx : v.txIdx = s.txIdx + 1 := hv ▸ takeInputs_keeps (f := State.txIdx) (fun _ => rfl) _ _
    have hvlen : v.txLen = s.txLen := hv ▸ takeInputs_keeps (f := State.txLen) (fun _ => rfl) _ _
    rw [← hv, ih hbrest (hcfg ▸ hrs) hphase (by omega), hv,
      takeInputs_update_takeInputs (g := roundsWritten rs) (fun _ => rfl), ← List.length_append, roundsWritten_cons]
    rfl

end Write

/-! ### The failure -/

/-- Undisturbed inputs `ins`, and after them an input `i` with a transport failure. -/
structure FailsAfter (ins : List Inputs) (i : Inputs) (s : State) : Prop where
  brings : Brings ins s
  lists : ∃ rest, listed s = ins ++ i :: rest
  noReset : i.rst = false
  held : i.reconfig = none
  fault : i.xportErr = true

theorem failsAfter_of_faultAfter {n : Nat} {s : State} (h : FaultAfter n s) :
    ∃ ins i, (listed s).take n = ins ∧ (listed s).take (n + 1) = ins ++ [i] ∧ n = ins.length ∧ FailsAfter ins i s := by
  obtain ⟨⟨-, hw, hall⟩, hlen, hrst, hlines, hfault⟩ := h
  have hsplit : listed s = (listed s).take n ++ (listed s)[n] :: (listed s).drop (n + 1) := by
    rw [← List.drop_eq_getElem_cons hlen, List.take_append_drop]
  rw [List.getD_eq_getElem _ _ hlen] at hrst hlines hfault
  exact ⟨(listed s).take n, (listed s)[n], rfl, List.take_succ_eq_append_getElem hlen,
    (List.length_take_of_le hlen.le).symm, ⟨hw, hall, _, _, hsplit⟩, ⟨_, hsplit⟩, hrst, hlines, hfault⟩

/-- The failure is entered under the latch of its own step (R157, R196). -/
theorem raiseFail_prelude (s : State) : raiseFail .transportError (prelude s) = faultExit (prelude s) := by
  unfold raiseFail goto faultExit
  rw [exitNow_prelude]
  rfl

theorem faultExit_advance (s : State) : faultExit (advance s) = advance (faultExit s) := by
  unfold faultExit
  rw [apply_ite advance]
  rfl

section Failure

variable {ins : List Inputs} {i : Inputs} {s t : State}

/-- The failure ends the operation with its step, whatever the operation did before it. -/
theorem FailsAfter.inProgress_eq {edge : State → Host.Outcome (State × EdgeEnd) Fault Refusal} (h : FailsAfter ins i s)
    (hedge : ∀ u, u.ports.xportErr = true → edge u = .next (raiseFail .transportError (prelude u), .closedStep))
    (hlisted : listed t = listed s) (hcfg : t.cfg = s.cfg) :
    inProgress edge (takeInputs ins.length t) = .next (takeInputs (ins.length + 1) (faultExit (latchedBy [i] t))) := by
  obtain ⟨rest, hl⟩ := h.lists
  have hports : (takeInputs ins.length t).ports = i := (List.cons.inj (listed_takeInputs (hlisted.trans hl))).1
  have ho : Ordinary (takeInputs ins.length t) := by
    refine ⟨?_, ?_, ?_⟩
    · rw [hports, h.noReset]
    · rw [hports, h.held]
    · rw [takeInputs_cfg, hcfg, h.brings.legal]
  rw [inProgress, manyEdges_closed ho (hedge _ (by rw [hports, h.fault])), raiseFail_prelude, prelude_eq, hports,
    takeInputs_succ, takeInputs_update faultExit_advance, takeInputs_update (accumulates_latchedBy.advance [i])]

theorem FailsAfter.readframe_inbound (h : FailsAfter ins i s) {L T : Nat} (hopen : StaysOpen L T ins) (hs : s.state = 2)
    (hcnt : s.rxCnt = 0) (hL : 0 < L) (h6 : L ≤ 6) :
    execReadframe L T s = .next (takeInputs (ins.length + 1) (faultExit (latchedBy [i] (collected ins (armed T s))))) := by
  rw [execReadframe_inbound T hs (by omega),
    inProgress_collecting (s := armed T s) (h.brings.congr rfl rfl) hopen hs hcnt hL h6,
    h.inProgress_eq (t := collected ins (armed T s)) (fun _ => readEdge_fault L) rfl rfl]

theorem FailsAfter.readframe_ack (h : FailsAfter ins i s) (L : Nat) {T : Nat} (hopen : StaysOpen 1 T ins) (hs : s.state = 6)
    (hack : s.ackV = false) :
    execReadframe L T s = .next (takeInputs (ins.length + 1) (faultExit (latchedBy [i] (waited ins (armed T s))))) := by
  rw [execReadframe_ack L T hs hack, inProgress_waiting (s := armed T s) (h.brings.congr rfl rfl) hopen hs,
    h.inProgress_eq (t := waited ins (armed T s)) (fun _ => readEdge_fault L) rfl rfl]

theorem FailsAfter.txchar (h : FailsAfter ins i s) (hs : s.state = 5) (hwait : ∀ j ∈ ins, j.txDone = false) :
    execTxchar s = .next (takeInputs (ins.length + 1)
      (faultExit (latchedBy [i] (latchedBy ins (presenting s))))) := by
  rw [execTxchar_transmit hs,
    inProgress_presenting (edge := presentEdge) (s := presenting s) (fun _ _ => rfl) (h.brings.congr rfl rfl) rfl hwait,
    h.inProgress_eq (t := latchedBy ins (presenting s)) (fun _ => presentEdge_fault) rfl rfl]

/-- The failure comes in a write after the rounds `rs` and what the next character did on the inputs `later`. -/
theorem FailsAfter.writeframe {rs : List WriteRound} {later : List Inputs} {g : State → State}
    (h : FailsAfter (roundInputs rs ++ later) i s) (hs : s.state = 5) (hlen : rs.length < s.txLen)
    (hlegal : ∀ r ∈ rs, r.legal s.cfg.txGapTicks)
    (hlater : ∀ u, Brings later u → u.txPhase = 1 → u.cfg = s.cfg →
      inProgress writingEdge u = inProgress writingEdge (takeInputs later.length (g u)))
    (hg : ∀ u, g (advance u) = advance (g u)) (hlisted : ∀ u, listed (g u) = listed u) (hcfg : ∀ u, (g u).cfg = u.cfg) :
    execWriteframe s = .next (takeInputs ((roundInputs rs ++ later).length + 1)
      (faultExit (latchedBy [i] (g (roundsWritten rs (presentingFirst s)))))) := by
  have hb : Brings (roundInputs rs ++ later) (presentingFirst s) := h.brings.congr rfl rfl
  have hidx : 0 + rs.length < s.txLen := by omega
  rw [execWriteframe_transmit hs (by omega), inProgress_rounds rs hb.left hlegal rfl hidx,
    hlater _ (hb.right (t := roundsWritten rs (presentingFirst s)) rfl rfl) (takeInputs_txPhase _ _) (takeInputs_cfg _ _),
    takeInputs_update_takeInputs hg,
    ← List.length_append]
  exact h.inProgress_eq (fun _ => writingEdge_fault) (hlisted _) (hcfg _)

end Failure

/-- Settles O41: what the undisturbed inputs left in progress, the next edge ends. -/
theorem transportFaultEndsAnOperation : Obligations.TransportFaultEndsAnOperation := by
  intro s n hfault
  obtain ⟨ins, i, htake, htake', rfl, h⟩ := failsAfter_of_faultAfter hfault
  rw [htake, htake']
  refine ⟨fun L T hs hcnt hL h6 hopen => ?inbound, fun L T hs hack hopen => ?ack, fun hs hwait => ?txchar,
    fun rs waiting hs hlen hlegal hwait hins => ?waiting, fun rs waiting gap done hs hlen hlegal hwait hdone hopen hins => ?gap⟩
  case inbound =>
    have hstays : StaysOpen L T ins := htake ▸ forall_isPrefix_of_take hopen
    refine (h.readframe_inbound hstays hs hcnt hL h6).trans ?_
    simp only [collected, armed, latchedBy, hcnt, Nat.zero_add, exitsOf_append, Bool.or_assoc]
  case ack =>
    have hstays : StaysOpen 1 T ins := htake ▸ forall_isPrefix_of_take hopen
    refine (h.readframe_ack L hstays hs hack).trans ?_
    simp only [waited, armed, latchedBy, exitsOf_append, Bool.or_assoc]
  case txchar =>
    refine (h.txchar hs hwait).trans ?_
    rw [← accumulates_latchedBy.append]
    rfl
  case waiting =>
    subst hins
    refine (h.writeframe (g := latchedBy waiting) hs hlen hlegal (fun u hb hp _ => ?_) (fun _ => rfl) (fun _ => rfl)
      (fun _ => rfl)).trans ?_
    · exact inProgress_presenting (fun _ => writingEdge_char) hb hp hwait
    · simp only [roundsWritten, presentingFirst, latchedBy, exitsOf_append, Bool.or_assoc, Nat.zero_add]
  case gap =>
    subst hins
    have hsplit : waiting ++ done :: gap = waiting ++ [done] ++ gap := by rw [List.append_assoc, List.singleton_append]
    refine (h.writeframe (g := fun u => waited gap (answeredBy (waiting ++ [done]) u)) hs hlen hlegal
      (fun u hb hp hcfg => ?_) (fun _ => rfl) (fun _ => rfl) (fun _ => rfl)).trans ?_
    · rw [hsplit] at hb ⊢
      exact inProgress_answeredGap hb hp hwait hdone <| by
        rw [hcfg, ← List.take_length (l := gap)]
        exact forall_isPrefix_of_take (P := fun a => ticksOf a < s.cfg.txGapTicks) hopen
    · rw [hsplit]
      simp only [waited, answeredBy, roundsWritten, presentingFirst, latchedBy, exitsOf_append, Bool.or_assoc, Nat.zero_add]

end Sys2Proof.Machine
end

section
/-! PROOFS. The codec: the two digit lookups (O5), what the checksum detects (O6), an encoded set-point read back (O7), and the
two operations that encode and compute (O37). -/

namespace Sys2Proof.Machine

/-! ### The digit lookups (R110, R111) -/

theorem hexval_decimal {c : Byte} (h : 0x30 ≤ c.toNat ∧ c.toNat ≤ 0x39) :
    hexval c = (true, BitVec.ofNat 4 (c.toNat - 0x30)) := by
  rw [hexval, if_pos h, Prod.mk.injEq]
  refine ⟨rfl, BitVec.eq_of_toNat_eq ?_⟩
  simp only [BitVec.extractLsb'_toNat, Nat.shiftRight_zero, BitVec.toNat_ofNat]
  omega

theorem hexval_letter {c : Byte} (h : 0x41 ≤ c.toNat ∧ c.toNat ≤ 0x46) :
    hexval c = (true, BitVec.ofNat 4 (c.toNat - 0x37)) := by
  rw [hexval, if_neg (by omega), if_pos h, Prod.mk.injEq]
  refine ⟨rfl, BitVec.eq_of_toNat_eq ?_⟩
  simp only [BitVec.toNat_add, BitVec.extractLsb'_toNat, Nat.shiftRight_zero, BitVec.toNat_ofNat]
  omega

theorem hexval_other {c : Byte} (hdecimal : ¬ (0x30 ≤ c.toNat ∧ c.toNat ≤ 0x39))
    (hletter : ¬ (0x41 ≤ c.toNat ∧ c.toNat ≤ 0x46)) : hexval c = (false, 0) := by
  rw [hexval, if_neg hdecimal, if_neg hletter]
  rfl

theorem hexchar_toNat (v : Nibble) :
    (hexchar v).toNat = if v.toNat ≤ 9 then 0x30 + v.toNat else 0x37 + v.toNat := by
  unfold hexchar
  split <;> simp only [BitVec.toNat_ofNat] <;> omega

/-- A hex digit is the character of its value: neither lookup loses anything (R111). -/
theorem hexchar_hexval {c : Byte} (h : (hexval c).1 = true) : hexchar (hexval c).2 = c := by
  apply BitVec.eq_of_toNat_eq
  rw [hexchar_toNat]
  by_cases hdecimal : 0x30 ≤ c.toNat ∧ c.toNat ≤ 0x39
  · rw [hexval_decimal hdecimal, BitVec.toNat_ofNat]
    split <;> omega
  · by_cases hletter : 0x41 ≤ c.toNat ∧ c.toNat ≤ 0x46
    · rw [hexval_letter hletter, BitVec.toNat_ofNat]
      split <;> omega
    · rw [hexval_other hdecimal hletter] at h
      cases h

theorem hexchar_injective : Function.Injective hexchar :=
  Function.LeftInverse.injective (g := fun c => (hexval c).2) fun v => congrArg Prod.snd (hexval_hexchar v)

/-- Hex digits of equal value are the same character. -/
theorem eq_of_hexval_eq {c d : Byte} (hc : (hexval c).1 = true) (hd : (hexval d).1 = true)
    (h : (hexval c).2 = (hexval d).2) : c = d := by
  rw [← hexchar_hexval hc, h, hexchar_hexval hd]

/-- Settles O5: the two ranges of digits and the bytes outside them. -/
theorem digitLookupsAreInverse : Obligations.DigitLookupsAreInverse := by
  refine ⟨fun c => ⟨fun h => ?decimal, fun h => ?letter, hexval_other, hexchar_hexval⟩,
    fun v => ⟨hexchar_toNat v, hexval_hexchar v, accept_hexchar v⟩⟩
  case decimal => simp only [hexval_decimal h, BitVec.toNat_ofNat, true_and]; omega
  case letter => simp only [hexval_letter h, BitVec.toNat_ofNat, true_and]; omega

/-! ### What the checksum detects (R112, R114, R119) -/

/-- A frame verifies iff its digits are hex digits and its last character is that of their sum in four bits. -/
theorem verifyChars_iff (d0 d1 d2 d3 k : Byte) : verifyChars d0 d1 d2 d3 k = true ↔
    hexDigits [d0, d1, d2, d3] = true ∧
      k = hexchar ((hexval d0).2 + (hexval d1).2 + (hexval d2).2 + (hexval d3).2) := by
  rw [verifyChars_eq, ← checksum_hexval, checksum_eq_hexchar_add, Bool.and_eq_true, beq_iff_eq]

theorem hexDigits_perm {ds es : List Byte} (h : ds.Perm es) : hexDigits ds = hexDigits es := h.all_eq

theorem digitSum_perm {ds es : List Byte} (h : ds.Perm es) : digitSum ds = digitSum es :=
  h.foldl_eq' (fun _ _ _ _ _ => Nat.add_right_comm _ _ _) _

/-- The test does not see the order of the digits (R119 (b)). -/
theorem verifyChars_perm {d0 d1 d2 d3 e0 e1 e2 e3 : Byte} (h : [d0, d1, d2, d3].Perm [e0, e1, e2, e3]) (k : Byte) :
    verifyChars d0 d1 d2 d3 k = verifyChars e0 e1 e2 e3 k := by
  rw [verifyChars_eq, verifyChars_eq, hexDigits_perm h, digitSum_perm h]

/-- The other characters of a verifying frame determine its first digit: the sum in four bits determines the digit's value. -/
theorem verifyChars_first_unique {d0 d1 d2 d3 k x : Byte} (h : verifyChars d0 d1 d2 d3 k = true)
    (hx : verifyChars x d1 d2 d3 k = true) : x = d0 := by
  obtain ⟨hd, hk⟩ := (verifyChars_iff _ _ _ _ _).mp h
  obtain ⟨hxd, hxk⟩ := (verifyChars_iff _ _ _ _ _).mp hx
  have hsum := hexchar_injective (hxk.symm.trans hk)
  simp only [BitVec.add_left_inj] at hsum
  exact eq_of_hexval_eq (List.all_eq_true.mp hxd x List.mem_cons_self) (List.all_eq_true.mp hd d0 List.mem_cons_self) hsum

/-- Four digits verify with one checksum character only. -/
theorem verifyChars_checksum_unique {d0 d1 d2 d3 k x : Byte} (h : verifyChars d0 d1 d2 d3 k = true)
    (hx : verifyChars d0 d1 d2 d3 x = true) : x = k :=
  ((verifyChars_iff _ _ _ _ _).mp hx).2.trans ((verifyChars_iff _ _ _ _ _).mp h).2.symm

/-- Settles O6: four of the five characters determine the fifth, and the order of the digits is not seen. -/
theorem whatTheChecksumDetects : Obligations.WhatTheChecksumDetects := by
  refine ⟨fun d0 d1 d2 d3 k x h => ?substitution, fun d0 d1 d2 d3 k => ⟨?first, ?middle, ?last⟩,
    fun d0 d1 d2 d3 h => ?oneChecksum⟩
  case substitution =>
    have hsecond (y : Byte) : verifyChars d0 y d2 d3 k = verifyChars y d0 d2 d3 k :=
      verifyChars_perm (List.perm_middle (l₁ := [d0])) k
    have hthird (y : Byte) : verifyChars d0 d1 y d3 k = verifyChars y d0 d1 d3 k :=
      verifyChars_perm (List.perm_middle (l₁ := [d0, d1])) k
    have hfourth (y : Byte) : verifyChars d0 d1 d2 y k = verifyChars y d0 d1 d2 k :=
      verifyChars_perm (List.perm_middle (l₁ := [d0, d1, d2])) k
    simp only [← Bool.not_eq_true]
    refine ⟨mt (verifyChars_first_unique h), ?_, ?_, ?_, mt (verifyChars_checksum_unique h)⟩
    · rw [hsecond] at h ⊢
      exact mt (verifyChars_first_unique h)
    · rw [hthird] at h ⊢
      exact mt (verifyChars_first_unique h)
    · rw [hfourth] at h ⊢
      exact mt (verifyChars_first_unique h)
  case first => exact verifyChars_perm (.swap _ _ _) k
  case middle => exact verifyChars_perm (.cons _ (.swap _ _ _)) k
  case last => exact verifyChars_perm (.cons _ (.cons _ (.swap _ _ _))) k
  case oneChecksum =>
    have hverifies := (verifyChars_iff d0 d1 d2 d3 _).mpr ⟨h, rfl⟩
    exact ⟨_, hverifies, accept_hexchar _, fun _ hx => verifyChars_checksum_unique hverifies hx⟩

/-! ### An encoded set-point read back (R118) -/

/-- Six characters written to an empty buffer verify and read as themselves. -/
theorem inboundBuffer_facts (g d0 d1 d2 d3 k : Byte) :
    verifyChecksum (Memory.writeList [] 0 [g, d0, d1, d2, d3, k]) = verifyChars d0 d1 d2 d3 k ∧
      decodeReading (Memory.writeList [] 0 [g, d0, d1, d2, d3, k]) = decodeChars d0 d1 d2 d3 := by
  have hread (j : Nat) (hj : j < 6) :
      (Memory.writeList [] 0 [g, d0, d1, d2, d3, k]).read j = [g, d0, d1, d2, d3, k][j] := by
    simpa using Memory.read_writeList [g, d0, d1, d2, d3, k] 0 j [] Memory.wf_nil hj
  constructor
  · rw [verifyChecksum, hread 1 (by decide), hread 2 (by decide), hread 3 (by decide), hread 4 (by decide),
      hread 5 (by decide)]
    rfl
  · rw [decodeReading, hread 1 (by decide), hread 2 (by decide), hread 3 (by decide), hread 4 (by decide)]
    rfl

/-- The digits and the checksum character of a set-point make a well-formed inbound frame (R63, R68). -/
theorem frameInbound_spDigits_wf (n : Nat) : Instr.wf (.frameInbound (hexchar (spNibble n 3)) (hexchar (spNibble n 2))
    (hexchar (spNibble n 1)) (hexchar (spNibble n 0)) (spChecksum n)) = true :=
  Bool.and_eq_true_iff.mpr ⟨hexDigits_spDigits n, (frameSumOk_iff _ _ _ _ _).mpr (spChecksum_eq n)⟩

/-- Settles O7: the padded digits with their checksum are a well-formed inbound frame, and their number is the set-point. -/
theorem encodedSetpointVerifiesAndReadsBack : Obligations.EncodedSetpointVerifiesAndReadsBack := by
  intro cfg v _ hpad hv
  obtain ⟨-, hverify, hdecode⟩ := frameInbound_facts (frameInbound_spDigits_wf v)
  refine ⟨_, _, _, _, _, ?frame, (inboundBuffer_facts _ _ _ _ _ _).1.trans hverify, ?reading⟩
  case frame =>
    rw [encodeFrame_eq_some (by omega) (by omega), outboundDigits, if_pos hpad, Int.toNat_natCast, List.append_assoc,
      List.append_assoc]
    rfl
  case reading =>
    have hnumber : numberOf (spDigits v) = v := numberOf_spDigits hv
    rw [(inboundBuffer_facts _ _ _ _ _ _).2, hdecode, ← spDigits, hnumber, BitVec.toNat_ofNat]
    omega

/-! ### The operations that encode and compute (R116, R131, R132) -/

/-- Without a frame the failure is raised through `goto` (R116, R157). -/
theorem exec_encodeoutbound_none {s : State} {sp : Int} (hw : s.cfg.wf = true) (h : encodeFrame s.cfg sp = none) :
    exec (.encodeoutbound sp) s = .next (orExit s (rowFail 5)) := by
  change execEncodeoutbound sp s = _
  rw [execEncodeoutbound, underLegalConfig_legal hw, h]
  exact congrArg Host.Outcome.next (goto_eq_orExit (enterFail .valueOutOfRange) s)

theorem exec_encodeoutbound_some {s : State} {sp : Int} {f : List Byte} (hw : s.cfg.wf = true)
    (h : encodeFrame s.cfg sp = some f) :
    exec (.encodeoutbound sp) s = .next { s with wires := { s.wires with frame := f } } := by
  change execEncodeoutbound sp s = _
  rw [execEncodeoutbound, underLegalConfig_legal hw, h]

theorem exec_computesetpoint_legal {s : State} (hw : s.cfg.wf = true) (raw : BitVec 16) (tref : Int) :
    exec (.computesetpoint raw tref) s =
      .next { s with wires := { s.wires with setpoint := computeSetPoint s.cfg raw tref } } := by
  change execComputesetpoint raw tref s = _
  rw [execComputesetpoint, underLegalConfig_legal hw]

/-- The two tests of `DivideByZero` as one, and the quotient (R131, R132). -/
theorem computeSetPoint_eq (cfg : Config) (raw : BitVec 16) (tref : Int) : computeSetPoint cfg raw tref =
    if raw = 0 ∨ spDivisor cfg tref = 0 then none
    else some (Int.tdiv (raw.toNat * spNumerator cfg) (spDivisor cfg tref)) := by
  rw [ite_or]
  rfl

/-- Settles O37: a set-point outside the range has no frame, one within it has, and the quotient's two tests are one. -/
theorem encodeAndComputeOperations : Obligations.EncodeAndComputeOperations := by
  refine fun s hw => ⟨fun sp h => exec_encodeoutbound_none hw (if_pos h), fun sp h0 h1 => ?encoded, fun raw tref => ?computed⟩
  case encoded => exact ⟨_, encodeFrame_eq_some h0 h1, exec_encodeoutbound_some hw (encodeFrame_eq_some h0 h1)⟩
  case computed => rw [exec_computesetpoint_legal hw, computeSetPoint_eq]

end Sys2Proof.Machine
end

section
/-! PROOFS. The calibrator (R130 to R137): its quotient and remainder, its numerator and divisor without sign extension, the widths
of its numbers, and what scaling the temperatures leaves unchanged. -/

namespace Sys2Proof.Machine

/-! ### The quotient rounded toward zero (R133) -/

/-- The quotient has the signs' product as its sign and the quotient of the magnitudes as its magnitude. -/
theorem tdiv_eq_sign_mul (a b : Int) : tdiv a b = a.sign * b.sign * (a.natAbs / b.natAbs : Nat) := by
  have hparts : tdiv a b = (if a.natAbs < b.natAbs then 0 else a.sign * b.sign) * (a.natAbs / b.natAbs : Nat) :=
    calc tdiv a b = (a.tdiv b).sign * (a.tdiv b).natAbs := (Int.sign_mul_natAbs _).symm
      _ = _ := by rw [Int.sign_tdiv, Int.natAbs_tdiv]; rfl
  rw [hparts]
  split
  case isTrue hlt => rw [Nat.div_eq_of_lt hlt]; simp
  case isFalse => rfl

/-- A dividend smaller than the divisor gives 0, whatever the signs. -/
theorem tdiv_eq_zero_of_natAbs_lt {a b : Int} (h : a.natAbs < b.natAbs) : tdiv a b = 0 := by
  rw [tdiv_eq_sign_mul, Nat.div_eq_of_lt h, Nat.cast_zero, mul_zero]

/-- What rounding toward zero leaves is smaller than the divisor and has the dividend's sign. -/
theorem tdiv_remainder (a : Int) {b : Int} (hb : b ≠ 0) :
    a = tdiv a b * b + a.tmod b ∧ (a.tmod b).natAbs < b.natAbs ∧ (a.tmod b = 0 ∨ (a.tmod b).sign = a.sign) := by
  refine ⟨(Int.tdiv_mul_add_tmod a b).symm, ?smaller, ?sign⟩
  case smaller =>
    rw [Int.natAbs_tmod]
    exact Nat.mod_lt _ (Int.natAbs_pos.mpr hb)
  case sign =>
    by_cases hdvd : b ∣ a
    · exact .inl (Int.tmod_eq_zero_of_dvd hdvd)
    · exact .inr (by rw [Int.sign_tmod, if_neg hdvd])

/-! ### Numerator and divisor (R131) -/

/-- The numerator is the divisor's formula at the trigger temperature. -/
theorem spNumerator_eq_spDivisor (cfg : Config) : spNumerator cfg = spDivisor cfg cfg.triggerTemp := rfl

theorem sext_of_fitsSigned {n : Nat} {v : Int} (h : fitsSigned n v = true) : sext n v = v := beq_iff_eq.mp h

/-- The offset and the trigger temperature of a legal configuration fit their widths (R6, R130). -/
theorem temperatures_fit_of_wf {cfg : Config} (h : cfg.wf = true) :
    fitsSigned 16 cfg.averageOffset = true ∧ fitsSigned cfg.tempW cfg.triggerTemp = true := by
  simp only [Config.wf, Bool.and_eq_true] at h
  simp only [h, and_self]

/-- No sign extension is left under a legal configuration. -/
theorem spDivisor_eq_sub {cfg : Config} {tref : Int} (hw : cfg.wf = true) (ht : fitsSigned cfg.tempW tref = true) :
    spDivisor cfg tref = tref - cfg.averageOffset * 2 ^ cfg.tempFrac := by
  rw [spDivisor, sext_of_fitsSigned ht, sext_of_fitsSigned (temperatures_fit_of_wf hw).1]

theorem spNumerator_eq_sub {cfg : Config} (hw : cfg.wf = true) :
    spNumerator cfg = cfg.triggerTemp - cfg.averageOffset * 2 ^ cfg.tempFrac := by
  rw [spNumerator_eq_spDivisor, spDivisor_eq_sub hw (temperatures_fit_of_wf hw).2]

/-- The calibrator of a legal configuration: both tests of `DivideByZero`, else the quotient of the full product (R131, R132). -/
theorem computeSetPoint_legal {cfg : Config} {tref : Int} (raw : BitVec 16) (hw : cfg.wf = true)
    (ht : fitsSigned cfg.tempW tref = true) : computeSetPoint cfg raw tref =
      if raw = 0 ∨ tref = cfg.averageOffset * 2 ^ cfg.tempFrac then none
      else some (tdiv (raw.toNat * (cfg.triggerTemp - cfg.averageOffset * 2 ^ cfg.tempFrac))
        (tref - cfg.averageOffset * 2 ^ cfg.tempFrac)) := by
  simp only [computeSetPoint_eq, spNumerator_eq_sub hw, spDivisor_eq_sub hw ht, sub_eq_zero, tdiv]

/-- Settles O10: the sign formula of the quotient, and its remainder with numerator and divisor freed of sign extension. -/
theorem setpointIsTheTruncatedQuotient : Obligations.SetpointIsTheTruncatedQuotient := by
  refine ⟨fun a b _ => tdiv_eq_sign_mul a b, fun _ _ => tdiv_eq_zero_of_natAbs_lt,
    fun cfg raw tref hw ht => ⟨fun hzero => ?refused, fun hraw href => ?computed⟩⟩
  case refused => rw [computeSetPoint_legal raw hw ht, if_pos hzero]
  case computed =>
    rw [computeSetPoint_legal raw hw ht, if_neg (not_or.mpr ⟨hraw, href⟩)]
    exact ⟨_, _, rfl, tdiv_remainder _ (sub_ne_zero.mpr href)⟩

/-! ### The widths (R135) -/

/-- The divisor needs `17 + F` bits, as the numerator of a configuration that triggers at the reference does. -/
theorem spDivisor_natAbs_lt (cfg : Config) (tref : Int) : (spDivisor cfg tref).natAbs < 2 ^ (16 + cfg.tempFrac) :=
  spNumerator_natAbs_lt { cfg with triggerTemp := tref }

/-- The full product needs `33 + F` bits. -/
theorem raw_mul_spNumerator_natAbs_lt (cfg : Config) (raw : BitVec 16) :
    (raw.toNat * spNumerator cfg).natAbs < 2 ^ (32 + cfg.tempFrac) :=
  calc (raw.toNat * spNumerator cfg).natAbs
      = raw.toNat * (spNumerator cfg).natAbs := by rw [Int.natAbs_mul, Int.natAbs_natCast]
    _ < 2 ^ 16 * 2 ^ (16 + cfg.tempFrac) := Nat.mul_lt_mul'' raw.isLt (spNumerator_natAbs_lt cfg)
    _ = 2 ^ (32 + cfg.tempFrac) := by rw [← Nat.pow_add, ← Nat.add_assoc]

/-- Settles O11: the width of each number of the calibrator. -/
theorem setpointFitsItsRegister : Obligations.SetpointFitsItsRegister :=
  fun cfg raw tref _ => ⟨spNumerator_natAbs_lt cfg, spDivisor_natAbs_lt cfg tref, raw_mul_spNumerator_natAbs_lt cfg raw,
    fun _ => computeSetPoint_fits⟩

/-! ### Fraction bits (R137) -/

/-- Sign extension commutes with appending `f` fraction bits. -/
theorem sext_mul_two_pow (m f : Nat) (v : Int) : sext (m + 1 + f) (v * 2 ^ f) = sext (m + 1) v * 2 ^ f := by
  have hsplit : sext (m + 1) v + (2 ^ (m + 1) : Nat) * v.bdiv (2 ^ (m + 1)) = v := Int.bmod_add_bdiv _ _
  have hwrap : v * 2 ^ f = sext (m + 1) v * 2 ^ f + (2 ^ (m + 1 + f) : Nat) * v.bdiv (2 ^ (m + 1)) := by
    push_cast at hsplit ⊢
    linear_combination -2 ^ f * hsplit
  have hfits : fitsSigned (m + f + 1) (sext (m + 1) v * 2 ^ f) = true := by
    obtain ⟨hlow, hhigh⟩ := sext_bounds m v
    have hunit : (0 : Int) < 2 ^ f := by positivity
    apply fitsSigned_of_bounds <;> rw [pow_add] <;> nlinarith
  calc sext (m + 1 + f) (v * 2 ^ f)
      = sext (m + 1 + f) (sext (m + 1) v * 2 ^ f) := by
        rw [hwrap]; exact Int.add_mul_bmod_self_left _ _ _
    _ = sext (m + 1) v * 2 ^ f := by
        rw [Nat.add_right_comm]
        exact sext_of_fitsSigned hfits

/-- The configuration with its temperatures, whole units before, written with `f` fraction bits. -/
def withFraction (f : Nat) (cfg : Config) : Config :=
  { cfg with tempFrac := f, triggerTemp := cfg.triggerTemp * 2 ^ f, refTempDefault := cfg.refTempDefault * 2 ^ f }

theorem spDivisor_withFraction {cfg : Config} (h : cfg.tempFrac = 0) (f : Nat) (tref : Int) :
    spDivisor (withFraction f cfg) (tref * 2 ^ f) = spDivisor cfg tref * 2 ^ f :=
  calc spDivisor (withFraction f cfg) (tref * 2 ^ f)
      = sext (16 + f) (tref * 2 ^ f) - sext 16 cfg.averageOffset * 2 ^ f := rfl
    _ = (sext 16 tref - sext 16 cfg.averageOffset) * 2 ^ f := by rw [sext_mul_two_pow 15, sub_mul]
    _ = spDivisor cfg tref * 2 ^ f := by simp [spDivisor, Config.tempW, h]

theorem spNumerator_withFraction {cfg : Config} (h : cfg.tempFrac = 0) (f : Nat) :
    spNumerator (withFraction f cfg) = spNumerator cfg * 2 ^ f :=
  spDivisor_withFraction h f cfg.triggerTemp

/-- The answer is that of the ratio: a common positive factor of numerator and divisor cancels (R131). -/
theorem computeSetPoint_eq_of_common_factor {cfg cfg' : Config} {tref tref' k : Int} (raw : BitVec 16) (hk : 0 < k)
    (hN : spNumerator cfg' = spNumerator cfg * k) (hD : spDivisor cfg' tref' = spDivisor cfg tref * k) :
    computeSetPoint cfg' raw tref' = computeSetPoint cfg raw tref := by
  simp only [computeSetPoint_eq, hN, hD, ← mul_assoc, Int.mul_tdiv_mul_of_pos_left _ _ hk, mul_eq_zero, hk.ne', or_false]

/-- Settles O12: the fraction bits are a common factor of numerator and divisor. -/
theorem setpointDoesNotDependOnTheFraction : Obligations.SetpointDoesNotDependOnTheFraction :=
  fun _cfg f raw tref _ h _ => computeSetPoint_eq_of_common_factor raw (pow_pos two_pos f) (spNumerator_withFraction h f)
    (spDivisor_withFraction h f tref)

end Sys2Proof.Machine
end

section
/-! PROOFS. The transmitter: `TXCHAR` to its answer (O42) and `WRITEFRAME` to its last gap or in progress (O43). What the inputs
before the last one do is a run in progress; the last input ends the operation, or the listed inputs end with it. -/

namespace Sys2Proof.Machine

/-! ### The last input of an operation -/

/-- The state lists the inputs `ins`, then `i`, then `rest`; neither `ins` nor `i` disturbs an operation. -/
structure BringsThrough (ins : List Inputs) (i : Inputs) (rest : List Inputs) (s : State) : Prop where
  legal : s.cfg.wf = true
  undisturbed : ∀ j ∈ ins ++ [i], Inputs.undisturbed j
  lists : listed s = ins ++ i :: rest

/-- An operation that ends on this input, or whose listed inputs end with it, ends with this edge. -/
theorem manyEdges_ends {edge : State → Host.Outcome (State × EdgeEnd) Fault Refusal} {s t : State} {e : EdgeEnd}
    {later : List Inputs} (ho : Ordinary s) (he : edge s = .next (t, e)) (hend : e ≠ .more ∨ later = []) :
    manyEdges edge later s = .next (endEdge (t, e)).1 := by
  cases e with
  | more => rw [hend.neg_resolve_left rfl, manyEdges_last ho he]; rfl
  | openStep => exact manyEdges_open ho he later
  | closedStep => exact manyEdges_closed ho he later

section BringsThrough

variable {ins rest : List Inputs} {i : Inputs} {s t : State}

theorem bringsThrough_of_undisturbedFor (h : UndisturbedFor (ins ++ [i]).length s) (hl : listed s = ins ++ [i] ++ rest) :
    BringsThrough ins i rest s := by
  obtain ⟨-, hw, hall⟩ := h
  rw [hl, List.take_left] at hall
  exact ⟨hw, hall, by rw [hl, List.append_assoc, List.singleton_append]⟩

/-- The last of all the listed inputs. -/
theorem bringsThrough_of_listed_eq (h : UndisturbedFor (ins ++ [i]).length s) (hl : listed s = ins ++ [i]) :
    BringsThrough ins i [] s :=
  bringsThrough_of_undisturbedFor h (hl.trans (List.append_nil _).symm)

theorem BringsThrough.brings (h : BringsThrough ins i rest s) : Brings ins s :=
  ⟨h.legal, fun j hj => h.undisturbed j (List.mem_append_left _ hj), i, rest, h.lists⟩

/-- The edge on the last input, after updates that leave the inputs and the configuration alone. -/
theorem BringsThrough.inProgress_ends {edge : State → Host.Outcome (State × EdgeEnd) Fault Refusal} {g : State → State}
    {e : EdgeEnd} (h : BringsThrough ins i rest s) (hlisted : listed t = listed s) (hcfg : t.cfg = s.cfg)
    (hedge : ∀ v, v = takeInputs ins.length t → Meets i v → edge v = .next (g v, e)) (hend : e ≠ .more ∨ rest = [])
    (hg : ∀ u, g (advance u) = advance (g u)) :
    inProgress edge (takeInputs ins.length t) = .next (endEdge (takeInputs ins.length (g t), e)).1 := by
  have hl : listed t = ins ++ i :: rest := hlisted.trans h.lists
  have hmeets := meets_takeInputs hl (hcfg ▸ h.legal) (h.undisturbed i (by simp))
  have henv : (takeInputs ins.length t).env = rest := (List.cons.inj (listed_takeInputs hl)).2
  rw [inProgress, manyEdges_ends hmeets.ordinary (hedge _ rfl hmeets) (henv ▸ hend), takeInputs_update hg]

/-! ### `TXCHAR` -/

/-- The character stays presented up to the last input. -/
theorem BringsThrough.execTxchar_eq (h : BringsThrough ins i rest s) (hs : s.state = 5)
    (hwait : ∀ j ∈ ins, j.txDone = false) :
    execTxchar s = inProgress presentEdge (takeInputs ins.length (latchedBy ins (presenting s))) := by
  rw [execTxchar_transmit hs]
  exact inProgress_presenting (s := presenting s) (fun _ _ => rfl) (h.brings.congr rfl rfl) rfl hwait

/-- The answer ends `TXCHAR`, and the gap begins (R140). -/
theorem BringsThrough.execTxchar_answered (h : BringsThrough ins i rest s) (hs : s.state = 5)
    (hwait : ∀ j ∈ ins, j.txDone = false) (hdone : i.txDone = true) :
    execTxchar s = .next (takeInputs (ins.length + 1) (answeredBy (ins ++ [i]) (presenting s))) := by
  have hedge : ∀ v, Meets i v → presentEdge v = .next (answeredBy [i] v, .closedStep) := fun v hm => by
    rw [presentEdge, charEdge_done hm.noFault (hm.ports ▸ hdone), hm.ports]
  rw [h.execTxchar_eq hs hwait,
    h.inProgress_ends (t := latchedBy ins (presenting s)) rfl rfl (fun v _ => hedge v) (.inl (by decide)) (fun _ => rfl),
    answeredBy_append_latchedBy, takeInputs_succ]
  rfl

/-- Unanswered to the end of the listed inputs, the character is still presented (U20). -/
theorem BringsThrough.execTxchar_unanswered (h : BringsThrough ins i [] s) (hs : s.state = 5)
    (hwait : ∀ j ∈ ins ++ [i], j.txDone = false) :
    execTxchar s = .next (takeInputs (ins.length + 1) (latchedBy (ins ++ [i]) (presenting s))) := by
  have hedge : ∀ v, Meets i v → presentEdge v = .next (latchedBy [i] v, .more) := fun v hm => by
    rw [presentEdge, charEdge_waiting hm.noFault (hm.ports ▸ hwait i (by simp)), hm.ports]
  rw [h.execTxchar_eq hs (fun j hj => hwait j (List.mem_append_left _ hj)),
    h.inProgress_ends (t := latchedBy ins (presenting s)) rfl rfl (fun v _ => hedge v) (.inr rfl) (fun _ => rfl),
    accumulates_latchedBy.append, takeInputs_succ]
  rfl

end BringsThrough

/-- The state lists at least the input at its ports. -/
theorem exists_listed_eq_concat (s : State) : ∃ ins i, listed s = ins ++ [i] :=
  (listed s).eq_nil_or_concat'.resolve_left (List.cons_ne_nil _ _)

/-- Settles O42: the character stays presented up to the last input, which answers it or not. -/
theorem txCharWaitsForTxDone : Obligations.TxCharWaitsForTxDone := by
  refine fun s => ⟨fun n hs hund hwait hdone => ?answered, fun hs hund hwait => ?unanswered, fun hs => ?outside⟩
  case answered =>
    have hlen : n < (listed s).length := hund.1
    have htake : (listed s).take (n + 1) = (listed s).take n ++ [(listed s)[n]] := List.take_succ_eq_append_getElem hlen
    have hn : ((listed s).take n).length = n := List.length_take_of_le hlen.le
    have h : BringsThrough ((listed s).take n) (listed s)[n] ((listed s).drop (n + 1)) s :=
      bringsThrough_of_undisturbedFor (by rwa [List.length_append, hn]) (by rw [← htake, List.take_append_drop])
    rw [List.getD_eq_getElem _ _ hlen] at hdone
    refine (h.execTxchar_answered hs hwait hdone).trans ?_
    rw [hn, ← htake]
    rfl
  case unanswered =>
    obtain ⟨ins, i, hl⟩ := exists_listed_eq_concat s
    rw [hl] at hund hwait ⊢
    have h : BringsThrough ins i [] s := bringsThrough_of_listed_eq hund hl
    exact List.length_append ▸ h.execTxchar_unanswered hs hwait
  case outside => exact (execWriteframe_outside (isIn_eq_false hs)).2

/-! ### `WRITEFRAME` -/

/-- The tick that ends the gap of the last character: the write is complete (R141). -/
theorem gapEdge_last {s : State} (hx : s.ports.xportErr = false) (ht : (waited [s.ports] s).timer = 0)
    (hidx : s.txIdx + 1 = s.txLen) : gapEdge (prelude s) = (waited [s.ports] s, .openStep) := by
  have hfault : ¬ (prelude s).ports.xportErr = true := Bool.eq_false_iff.mp hx
  have hexpired : expired (waited [s.ports] s) = true := beq_iff_eq.mpr ht
  have hlast : (prelude s).txIdx + 1 = (prelude s).txLen := hidx
  rw [gapEdge, if_neg hfault, dec_prelude, if_pos hexpired, if_pos hlast]

/-- A write after the rounds `rs` and what the next character did on the inputs `later`. -/
theorem execWriteframe_rounds {rs : List WriteRound} {later : List Inputs} {s : State} {g : State → State}
    (hb : Brings (roundInputs rs ++ later) s) (hs : s.state = 5) (hlen : rs.length < s.txLen)
    (hlegal : ∀ r ∈ rs, r.legal s.cfg.txGapTicks)
    (hlater : ∀ u, Brings later u → u.txPhase = 1 → u.cfg = s.cfg →
      inProgress writingEdge u = inProgress writingEdge (takeInputs later.length (g u)))
    (hg : ∀ u, g (advance u) = advance (g u)) :
    execWriteframe s = inProgress writingEdge
      (takeInputs (roundInputs rs ++ later).length (g (roundsWritten rs (presentingFirst s)))) := by
  have hb' : Brings (roundInputs rs ++ later) (presentingFirst s) := hb.congr rfl rfl
  have hidx : 0 + rs.length < s.txLen := by omega
  rw [execWriteframe_transmit hs (by omega), inProgress_rounds rs hb'.left hlegal rfl hidx,
    hlater _ (hb'.right (t := roundsWritten rs (presentingFirst s)) rfl rfl) (takeInputs_txPhase _ _) (takeInputs_cfg _ _),
    takeInputs_update_takeInputs hg, ← List.length_append]

theorem roundInputs_concat (rs : List WriteRound) (r : WriteRound) :
    roundInputs (rs ++ [r]) = roundInputs rs ++ r.inputs := by
  rw [roundInputs, List.flatMap_append, List.flatMap_singleton]
  rfl

/-- The next round after the rounds `rs`. -/
theorem nextPresented_roundsWritten (rs : List WriteRound) (r : WriteRound) (s : State) :
    nextPresented r.inputs (roundsWritten rs s) = roundsWritten (rs ++ [r]) s := by
  have htimer : (if (rs ++ [r]).isEmpty then s.timer else 0) = 0 := by simp
  rw [roundsWritten, roundsWritten, htimer, roundInputs_concat, accumulates_latchedBy.append, List.length_append]
  rfl

/-- A round up to the last input of its gap, and that input. -/
structure RoundSplit (gapTicks : Nat) (r : WriteRound) (gap : List Inputs) (i : Inputs) : Prop where
  inputs : r.inputs = r.waiting ++ [r.done] ++ gap ++ [i]
  waits : ∀ j ∈ r.waiting, j.txDone = false
  answered : r.done.txDone = true
  gapOpen : ∀ a, a <+: gap → a ≠ [] → ticksOf a < gapTicks
  gapOver : gapTicks ≤ ticksOf (gap ++ [i])

theorem RoundSplit.roundInputs_eq {gapTicks : Nat} {r : WriteRound} {gap : List Inputs} {i : Inputs}
    (h : RoundSplit gapTicks r gap i) (rs : List WriteRound) :
    roundInputs (rs ++ [r]) = roundInputs rs ++ (r.waiting ++ [r.done] ++ gap) ++ [i] := by
  rw [roundInputs_concat, h.inputs, ← List.append_assoc]

theorem WriteRound.legal.split {gapTicks : Nat} {r : WriteRound} (h : r.legal gapTicks) :
    ∃ gap i, RoundSplit gapTicks r gap i := by
  obtain ⟨gap, i, hgap, hover, hopen⟩ := gap_split_of_legal h
  obtain ⟨hwaits, hanswered, -⟩ := h
  refine ⟨gap, i, ?_, hwaits, hanswered, hopen, hover⟩
  rw [WriteRound.inputs, hgap, List.append_assoc, List.append_assoc, List.singleton_append]

/-- The registers in the gap of the character after the rounds `rs`, the inputs `gap` of it seen. -/
def inGap (rs : List WriteRound) (r : WriteRound) (gap : List Inputs) (s : State) : State :=
  waited gap (answeredBy (r.waiting ++ [r.done]) (roundsWritten rs (presentingFirst s)))

section LastRound

variable {rs : List WriteRound} {r : WriteRound} {gap rest : List Inputs} {i : Inputs} {s : State}

/-- A write up to the last input of a round. -/
theorem RoundSplit.execWriteframe_eq (h : RoundSplit s.cfg.txGapTicks r gap i)
    (hb : Brings (roundInputs rs ++ (r.waiting ++ [r.done] ++ gap)) s) (hs : s.state = 5) (hlen : rs.length < s.txLen)
    (hlegal : ∀ r ∈ rs, r.legal s.cfg.txGapTicks) :
    execWriteframe s = inProgress writingEdge
      (takeInputs (roundInputs rs ++ (r.waiting ++ [r.done] ++ gap)).length (inGap rs r gap s)) :=
  execWriteframe_rounds (g := fun u => waited gap (answeredBy (r.waiting ++ [r.done]) u)) hb hs hlen hlegal
    (fun _u hbu hp hcfg => inProgress_answeredGap hbu hp h.waits h.answered (hcfg ▸ h.gapOpen)) (fun _ => rfl)

/-- The registers where the gap is over (R141, R175). -/
theorem RoundSplit.waited_inGap (h : RoundSplit s.cfg.txGapTicks r gap i) (rs : List WriteRound) :
    waited [i] (inGap rs r gap s) = { s with
      txIdx := rs.length, txPhase := 2, timer := 0, exitPend := s.exitPend || exitsOf (roundInputs (rs ++ [r])) } := by
  have htimer : s.cfg.txGapTicks - ticksOf (gap ++ [i]) = 0 := Nat.sub_eq_zero_of_le h.gapOver
  rw [inGap, ← accumulates_waited.append, h.roundInputs_eq]
  simp only [waited, answeredBy, roundsWritten, presentingFirst, latchedBy, exitsOf_append, Bool.or_assoc, Nat.zero_add,
    htimer]

/-- What the last edge of a round meets: the gap, which its input ends. -/
theorem RoundSplit.meets_gap (h : RoundSplit s.cfg.txGapTicks r gap i) {n : Nat} {v : State}
    (hv : v = takeInputs n (inGap rs r gap s)) (hm : Meets i v) :
    v.txPhase = 2 ∧ (waited [v.ports] v).timer = 0 ∧ v.txIdx = rs.length ∧ v.txLen = s.txLen := by
  have htimer : v.timer = s.cfg.txGapTicks - ticksOf gap := hv ▸ takeInputs_keeps (f := State.timer) (fun _ => rfl) _ _
  have hidx : v.txIdx = 0 + rs.length := hv ▸ takeInputs_keeps (f := State.txIdx) (fun _ => rfl) _ _
  have hover := h.gapOver
  rw [ticksOf_append] at hover
  have hended : v.timer - ticksOf [v.ports] = 0 := by rw [htimer, hm.ports]; omega
  exact ⟨hv ▸ takeInputs_txPhase _ _, hended, by omega, hv ▸ takeInputs_keeps (f := State.txLen) (fun _ => rfl) _ _⟩

/-- The round of the last character completes the write, on the inputs of its last step (R141; log entry 9). -/
theorem RoundSplit.execWriteframe_last (h : RoundSplit s.cfg.txGapTicks r gap i)
    (hb : BringsThrough (roundInputs rs ++ (r.waiting ++ [r.done] ++ gap)) i rest s) (hs : s.state = 5)
    (hlen : rs.length + 1 = s.txLen) (hlegal : ∀ r ∈ rs, r.legal s.cfg.txGapTicks) :
    execWriteframe s = .next (tickSpent (takeInputs (roundInputs rs ++ (r.waiting ++ [r.done] ++ gap)).length
      (waited [i] (inGap rs r gap s)))) := by
  rw [h.execWriteframe_eq hb.brings hs (by omega) hlegal]
  refine hb.inProgress_ends (g := waited [i]) (e := .openStep) rfl rfl (fun v hv hm => ?_) (.inl (by decide)) (fun _ => rfl)
  obtain ⟨hphase, htimer, hidx, hvlen⟩ := h.meets_gap hv hm
  rw [writingEdge_gap hphase, gapEdge_last hm.noFault htimer (by omega), hm.ports]

/-- The round of an earlier character, where the listed inputs end: the next one is presented. -/
theorem RoundSplit.execWriteframe_unlisted (h : RoundSplit s.cfg.txGapTicks r gap i)
    (hb : BringsThrough (roundInputs rs ++ (r.waiting ++ [r.done] ++ gap)) i [] s) (hs : s.state = 5)
    (hlen : rs.length + 1 < s.txLen) (hlegal : ∀ r ∈ rs, r.legal s.cfg.txGapTicks) :
    execWriteframe s = .next (takeInputs (roundInputs (rs ++ [r])).length
      (roundsWritten (rs ++ [r]) (presentingFirst s))) := by
  have hafter : nextPresented [i] (inGap rs r gap s) = roundsWritten (rs ++ [r]) (presentingFirst s) := by
    rw [inGap, ← nextPresented_append_waited, ← nextPresented_append_answeredBy, ← nextPresented_roundsWritten, h.inputs,
      List.append_assoc _ gap]
  have hinputs : (roundInputs (rs ++ [r])).length = (roundInputs rs ++ (r.waiting ++ [r.done] ++ gap)).length + 1 := by
    rw [h.roundInputs_eq, List.length_append (bs := [i]), List.length_singleton]
  rw [hinputs, h.execWriteframe_eq hb.brings hs (by omega) hlegal, ← hafter, takeInputs_succ]
  refine hb.inProgress_ends (g := nextPresented [i]) (e := .more) rfl rfl (fun v hv hm => ?_) (.inr rfl) (fun _ => rfl)
  obtain ⟨hphase, htimer, hidx, hvlen⟩ := h.meets_gap hv hm
  rw [writingEdge_gap hphase, gapEdge_next hm.noFault htimer (by omega), hm.ports]

end LastRound

section WholeRounds

variable {rs : List WriteRound} {waiting later : List Inputs} {s : State}

/-- A write of all its characters. -/
theorem execWriteframe_complete (hs : s.state = 5) (hpos : 0 < s.txLen) (hlen : rs.length = s.txLen)
    (hlegal : ∀ r ∈ rs, r.legal s.cfg.txGapTicks) (hl : listed s = roundInputs rs ++ later)
    (hund : UndisturbedFor (roundInputs rs).length s) :
    execWriteframe s = .next (tickSpent (takeInputs ((roundInputs rs).length - 1) { s with
      txIdx := s.txLen - 1, txPhase := 2, timer := 0, exitPend := s.exitPend || exitsOf (roundInputs rs) })) := by
  obtain rfl | ⟨rs, r, rfl⟩ := rs.eq_nil_or_concat'
  · exact absurd hpos (hlen ▸ lt_irrefl 0)
  rw [List.length_append, List.length_singleton] at hlen
  obtain ⟨gap, i, h⟩ := (hlegal r (by simp)).split
  rw [h.roundInputs_eq] at hl hund ⊢
  rw [h.execWriteframe_last (bringsThrough_of_undisturbedFor hund hl) hs hlen
    fun r hr => hlegal r (List.mem_append_left _ hr), List.length_append (bs := [i]), List.length_singleton, Nat.add_sub_cancel]
  rw [h.waited_inGap, ← h.roundInputs_eq, ← hlen, Nat.add_sub_cancel]

/-- A write whose character waits for its answer where the listed inputs end. -/
theorem BringsThrough.execWriteframe_waiting {i : Inputs} (hb : BringsThrough (roundInputs rs ++ waiting) i [] s)
    (hs : s.state = 5) (hlen : rs.length < s.txLen) (hlegal : ∀ r ∈ rs, r.legal s.cfg.txGapTicks)
    (hwait : ∀ j ∈ waiting ++ [i], j.txDone = false) :
    execWriteframe s = .next (takeInputs (roundInputs rs ++ waiting ++ [i]).length
      (latchedBy (waiting ++ [i]) (roundsWritten rs (presentingFirst s)))) := by
  have hbefore := execWriteframe_rounds (g := latchedBy waiting) hb.brings hs hlen hlegal
    (fun u hbu hp _ => inProgress_presenting (fun _ => writingEdge_char) hbu hp
      fun j hj => hwait j (List.mem_append_left _ hj)) (fun _ => rfl)
  rw [hbefore, accumulates_latchedBy.append, List.length_append (bs := [i]), List.length_singleton, takeInputs_succ]
  refine hb.inProgress_ends (g := latchedBy [i]) (e := .more) rfl rfl (fun v hv hm => ?_) (.inr rfl) (fun _ => rfl)
  have hphase : v.txPhase = 1 := hv ▸ takeInputs_txPhase _ _
  rw [writingEdge_char hphase, charEdge_waiting hm.noFault (hm.ports ▸ hwait i (by simp)), hm.ports]

/-- A write in progress where the listed inputs end: after the last gap seen the next character is presented. -/
theorem execWriteframe_inProgress (hs : s.state = 5) (hlen : rs.length < s.txLen)
    (hlegal : ∀ r ∈ rs, r.legal s.cfg.txGapTicks) (hwait : ∀ j ∈ waiting, j.txDone = false)
    (hl : listed s = roundInputs rs ++ waiting) (hund : UndisturbedFor (listed s).length s) :
    execWriteframe s = .next (takeInputs (listed s).length
      (latchedBy waiting (roundsWritten rs (presentingFirst s)))) := by
  rw [hl] at hund ⊢
  obtain rfl | ⟨waiting, i, rfl⟩ := waiting.eq_nil_or_concat'
  · obtain rfl | ⟨rs, r, rfl⟩ := rs.eq_nil_or_concat'
    · exact absurd hl (List.cons_ne_nil _ _)
    obtain ⟨gap, i, h⟩ := (hlegal r (by simp)).split
    rw [List.length_append, List.length_singleton] at hlen
    rw [List.append_nil] at hund hl ⊢
    rw [h.roundInputs_eq] at hund hl
    rw [accumulates_latchedBy.nil]
    exact h.execWriteframe_unlisted (bringsThrough_of_listed_eq hund hl) hs hlen
      fun r hr => hlegal r (List.mem_append_left _ hr)
  · rw [← List.append_assoc] at hund hl ⊢
    exact (bringsThrough_of_listed_eq hund hl).execWriteframe_waiting hs hlen hlegal hwait

end WholeRounds

/-- In phase `CHAR` the character at `tx_idx` stands on the port (R24), whatever inputs come. -/
theorem outputs_takeInputs_presenting {s : State} (hs : s.state = 5) (hp : s.txPhase = 1) (n : Nat) :
    (outputs (takeInputs n s)).txValid = true ∧ (outputs (takeInputs n s)).txData = s.txBuf.read s.txIdx := by
  have hvalid : txValid (takeInputs n s) = true := by
    rw [txValid, isIn_of_state_eq (y := .transmit) ((takeInputs_state n s).trans hs), takeInputs_txPhase, hp]
    rfl
  have hdata : (takeInputs n s).txBuf.read (takeInputs n s).txIdx = s.txBuf.read s.txIdx :=
    takeInputs_keeps (f := fun u => u.txBuf.read u.txIdx) (fun _ => rfl) n s
  exact ⟨hvalid, (if_pos hvalid).trans hdata⟩

/-- An empty frame is no write (log entry 9). -/
theorem execWriteframe_empty {s : State} (h : s.txLen = 0) : execWriteframe s = .next s :=
  if_neg fun hwrite => absurd h hwrite.2.ne'

/-- Settles O43: the rounds before the last input, and the edge on that input. -/
theorem writeFrameSendsEveryCharacter : Obligations.WriteFrameSendsEveryCharacter := by
  refine fun s => ⟨fun rs later hs hpos hlen hlegal hl hund => ?complete,
    fun rs waiting hs hlen hlegal hwait hl hund => ⟨_, ?inProgress, rfl, ?port⟩, fun h => ?nothing⟩
  case complete => exact execWriteframe_complete hs hpos hlen hlegal hl hund
  case inProgress =>
    refine (execWriteframe_inProgress hs hlen hlegal hwait hl hund).trans ?_
    rw [hl]
    simp only [roundsWritten, presentingFirst, latchedBy, exitsOf_append, Bool.or_assoc, Nat.zero_add]
  case port =>
    refine outputs_takeInputs_presenting ?_ ?_ _
    exacts [hs, rfl]
  case nothing =>
    obtain h | h := h
    · exact execWriteframe_empty h
    · exact (execWriteframe_outside (isIn_eq_false h)).1

end Sys2Proof.Machine
end

section
/-! PROOFS. The sequencer, one state at a time (O15 to O26). An ordinary step is the rule on the latched state; each rule is stated once
on any state, in the statements' rows, and the statement is that equation under the clock edge. -/

namespace Sys2Proof.Machine

/-! ### Ordinary steps, failures and waits -/

/-- An ordinary step answers what the rule makes of the latched state (R156). -/
theorem stateStep_of_rule {rule : State → Result} {s u : State} (ho : Ordinary s) (h : rule (latched s) = .next u) :
    stateStep rule s = .next (advance u) := by
  have hprelude : prelude s = latched s := rfl
  rw [stateStep_ordinary ho, hprelude, h, andThen_next]

/-- A raised failure is the row `Fail` of its reason, under the exit override (R157, R158). -/
theorem raiseFail_eq_orExit (r : Reason) (s : State) : raiseFail r s = orExit s (rowFail r.code) := rfl

/-- A wait takes the tick, and leaves when none is missing (R175). -/
theorem waitThen_eq (enterY : State → State) (s : State) : waitThen enterY s =
    if timerAfter s = 0 then orExit { s with timer := 0 } enterY else { s with timer := timerAfter s } := by
  have hdec : dec s = { s with timer := timerAfter s } := rfl
  have hexpired : expired (dec s) = true ↔ timerAfter s = 0 := beq_iff_eq
  unfold waitThen
  rw [hdec] at hexpired ⊢
  split_ifs with he ht ht
  · rw [ht, goto_eq_orExit]
  · exact absurd (hexpired.mp he) ht
  · exact absurd (hexpired.mpr ht) he
  · rfl

/-- Entering `PowerDown` is its own exit override (R157). -/
theorem orExit_rowPowerDown (s : State) : orExit s rowPowerDown = rowPowerDown s := ite_self _

/-! ### `Idle` and `PowerUp` -/

/-- Settles O15: with an exit request the latch holds it; without one the latch is as it was. -/
theorem idleStep : Obligations.IdleStep := by
  intro s ho
  refine stateStep_of_rule ho ?_
  have hexit : exitNow (latched s) = exitNow s := exitNow_prelude s
  unfold ruleIdle
  rw [hexit]
  cases h : exitNow s with
  | true =>
    have hpend : (s.exitPend || s.ports.exitReq) = true := h
    simp [latched, hpend, SeqState.code]
  | false =>
    have hpend : (s.exitPend || s.ports.exitReq) = false := h
    have hlatched : latched s = s := prelude_self h
    rw [hpend, hlatched, if_neg Bool.false_ne_true, if_neg Bool.false_ne_true, apply_ite Host.Outcome.next]
    rfl

/-- Settles O16: a wait that leaves for the inbound window. -/
theorem powerUpStep : Obligations.PowerUpStep := fun s ho =>
  stateStep_of_rule ho (congrArg Host.Outcome.next (waitThen_eq enterAwaitInbound (latched s)))

/-! ### The inbound window -/

/-- A transport fault stores nothing (R96, R161). -/
theorem ruleAwaitInbound_transport {s : State} (hx : s.ports.xportErr = true) :
    ruleAwaitInbound s = .next (orExit s (rowFail 6)) := by
  rw [ruleAwaitInbound, if_pos hx, raiseFail_eq_orExit]
  rfl

/-- Without an accepted byte the inbound window takes the tick (R161). -/
theorem ruleAwaitInbound_none {s : State} (hx : s.ports.xportErr = false) (ht : rxTakes s = false) :
    ruleAwaitInbound s = .next (windowStep (dec s)) := by
  rw [ruleAwaitInbound, hx, if_neg Bool.false_ne_true, rxCharInbound_none ht, andThen_next, ← windowStep_eq,
    apply_ite Host.Outcome.next]

/-- Settles O17: the transport fault, the accepted byte, and neither. -/
theorem awaitInboundStep : Obligations.AwaitInboundStep := by
  intro s ho hroom
  refine stateStep_of_rule ho ?_
  have htakes : rxTakes (latched s) = true ↔ s.ports.rxValid = true ∧ accept s.ports.rxData s.ports.rxFerr = true :=
    Bool.and_eq_true_iff
  split_ifs with hx hb
  · exact ruleAwaitInbound_transport hx
  · exact ruleAwaitInbound_some (s := latched s) (Bool.eq_false_iff.mpr hx) (htakes.mpr hb) hroom
  · exact ruleAwaitInbound_none (s := latched s) (Bool.eq_false_iff.mpr hx)
      (Bool.eq_false_iff.mpr fun h => hb (htakes.mp h))

/-! ### `Validate` and `Compute` -/

/-- `Validate` is one entry, under the exit override (R162). -/
theorem ruleValidate_eq (s : State) : ruleValidate s =
    .next (orExit s (fun u => if verifyChecksum s.rxBuf = true then { u with state := 4 } else rowFail 3 u)) := by
  unfold ruleValidate
  split_ifs <;> rfl

/-- Settles O18: the one entry of the rule, on the latched state. -/
theorem validateStep : Obligations.ValidateStep := fun s ho => stateStep_of_rule ho (ruleValidate_eq (latched s))

/-- A legal configuration's constant needs no sign extension (R7, R163). -/
theorem refTemperature_eq {s : State} (hw : s.cfg.wf = true) : refTemperature s =
    if s.cfg.useSensor = true then sext s.cfg.tempW s.ports.refTemp else s.cfg.refTempDefault :=
  refTemperature_takeInputs (j := 0) (Nat.succ_pos _) hw

/-- `Compute` without a set-point fails, the reading recorded (R163). -/
theorem ruleCompute_none {s : State} (h : computeSetPoint s.cfg (decodeReading s.rxBuf) (refTemperature s) = none) :
    ruleCompute s = .next (orExit (recorded (decodeReading s.rxBuf) (refTemperature s) s) (rowFail 4)) := by
  rw [ruleCompute, h]
  rfl

/-- `Compute` with a set-point records it and goes on to `Transmit` (R163). -/
theorem ruleCompute_some {s : State} {q : Int}
    (h : computeSetPoint s.cfg (decodeReading s.rxBuf) (refTemperature s) = some q) :
    ruleCompute s = .next (orExit
      { recorded (decodeReading s.rxBuf) (refTemperature s) s with setpoint := q, setpointV := true }
      (fun u => { u with txPhase := 0, state := 5 })) := by
  rw [ruleCompute, h]
  rfl

/-- The step of `Compute` that raises `InvalidReading`. -/
theorem exec_stCompute_none {s : State} {tref : Int} (ho : Ordinary s) (htref : refTemperature (latched s) = tref)
    (h : computeSetPoint s.cfg (decodeReading s.rxBuf) tref = none) : exec .stCompute s =
      .next (advance (orExit (recorded (decodeReading s.rxBuf) tref (latched s)) (rowFail 4))) := by
  subst htref
  exact stateStep_of_rule ho (ruleCompute_none (s := latched s) h)

/-- Settles O19: the step by the set-point being there or not, and the log record of the failure read off its row. -/
theorem computeStep : Obligations.ComputeStep := by
  intro s tref ho htref
  have href : refTemperature (latched s) = tref := (refTemperature_eq (s := latched s) ho.2.2).trans htref.symm
  refine ⟨?step, fun t ht hnone hexit => ?log⟩
  case step =>
    cases hsp : computeSetPoint s.cfg (decodeReading s.rxBuf) tref with
    | none => exact exec_stCompute_none ho href hsp
    | some q =>
      subst href
      exact stateStep_of_rule ho (ruleCompute_some (s := latched s) hsp)
  case log =>
    have hfail : orExit (recorded (decodeReading s.rxBuf) tref (latched s)) (rowFail 4) =
        rowFail 4 (recorded (decodeReading s.rxBuf) tref (latched s)) := orExit_enter (s := s) _ hexit rfl rfl
    rw [exec_stCompute_none ho href hnone, hfail] at ht
    cases ht
    exact ⟨rfl, rfl, rfl, rfl, rfl, rfl⟩

/-! ### `Transmit` -/

/-- The rule of `Transmit` is that of its phase, for each phase row (R164). -/
theorem exec_stTransmit_of_phase {s : State} (ho : Ordinary s) {p : Instr × BitVec 2} (hp : p ∈ phaseRows)
    (hphase : s.txPhase = p.2) : exec .stTransmit s = exec p.1 s := by
  have hstep : exec .stTransmit s = andThen (ruleTransmit (latched s)) (fun t => .next (advance t)) := stateStep_ordinary ho
  have hcode : (latched s).txPhase = p.2 := hphase
  rw [hstep, ruleTransmit, hcode]
  simp only [phaseRows, List.mem_cons, List.not_mem_nil, or_false] at hp
  rcases hp with rfl | rfl | rfl
  · exact (stateStep_ordinary (rule := ruleEnc) ho).symm
  · exact (stateStep_ordinary (rule := ruleChar) ho).symm
  · exact (stateStep_ordinary (rule := ruleGap) ho).symm

theorem phaseRows_ne_unused : ∀ p ∈ phaseRows, p.2 ≠ 3 := by decide

/-- Settles O20: the phase's rule is selected, and `Transmit` completes in every phase but the unused one. -/
theorem transmitStepIsItsPhase : Obligations.TransmitStepIsItsPhase := by
  intro s ho p hp hphase
  have hused : (latched s).txPhase ≠ 3 := hphase ▸ phaseRows_ne_unused p hp
  exact ⟨exec_stTransmit_of_phase ho hp hphase, stateStep_completes ho (ruleTransmit_completes ho.2.2 hused)⟩

/-- Settles O21: an encoded frame fits the buffer and is loaded whole. -/
theorem encStep : Obligations.EncStep := by
  intro s ho
  refine stateStep_of_rule ho ?_
  have henc : encodeFrame (latched s).cfg (latched s).setpoint = encodeFrame s.cfg s.setpoint := rfl
  rw [ruleEnc, henc]
  cases hf : encodeFrame s.cfg s.setpoint with
  | none => rfl
  | some f =>
    obtain ⟨-, -, -, hlen⟩ := encodeFrame_length ho.2.2 hf
    exact loadFrame_eq hlen

/-- Settles O22: the three branches of the phase's rule. -/
theorem charStep : Obligations.CharStep := by
  intro s ho
  refine stateStep_of_rule ho ?_
  rw [ruleChar, ← apply_ite Host.Outcome.next, ← apply_ite Host.Outcome.next]
  rfl

/-- The gap with no transport fault: the next character, the acknowledgement window, or the rest of the wait (R141, R164). -/
theorem ruleGap_eq {s : State} (hx : s.ports.xportErr = false) : ruleGap s = .next (
    if timerAfter s = 0 then
      if s.txIdx + 1 = s.txLen then orExit { s with timer := 0 } enterAwaitAck
      else { s with timer := 0, txIdx := s.txIdx + 1, txPhase := 1 }
    else { s with timer := timerAfter s }) := by
  have hdec : dec s = { s with timer := timerAfter s } := rfl
  have hexpired : expired (dec s) = true ↔ timerAfter s = 0 := beq_iff_eq
  rw [ruleGap, hx, if_neg Bool.false_ne_true, if_congr hexpired rfl rfl, hdec]
  split_ifs with ht hlast
  · rw [ht, goto_eq_orExit]
  · rw [ht]
    rfl
  · rfl

/-- Settles O23: the transport fault, and the gap without one. -/
theorem gapStep : Obligations.GapStep := by
  intro s ho
  refine stateStep_of_rule ho ?_
  by_cases hx : s.ports.xportErr = true
  · rw [if_pos hx]
    exact if_pos hx
  · rw [if_neg hx]
    exact ruleGap_eq (s := latched s) (Bool.eq_false_iff.mpr hx)

/-! ### The acknowledgement window -/

/-- A transport fault comes before any character (R96, R165). -/
theorem ruleAwaitAck_transport {s : State} (hx : s.ports.xportErr = true) :
    ruleAwaitAck s = .next (orExit s (rowFail 6)) := by
  rw [ruleAwaitAck, if_pos hx, raiseFail_eq_orExit]
  rfl

/-- Without an accepted byte the open acknowledgement window takes the tick and ends by its deadline (R165). -/
theorem ruleAwaitAck_none {s : State} (hx : s.ports.xportErr = false) (hack : s.ackV = false) (ht : rxTakes s = false) :
    ruleAwaitAck s = .next (waitThen (rowFail 7) s) := by
  rw [ruleAwaitAck, hx, if_neg Bool.false_ne_true, hack, if_neg Bool.false_ne_true, ht, if_neg Bool.false_ne_true, waitThen,
    apply_ite Host.Outcome.next]
  rfl

/-- Settles O24: the transport fault, the accepted character, and neither. -/
theorem awaitAckStep : Obligations.AwaitAckStep := by
  intro s ho hack
  refine stateStep_of_rule ho ?_
  have htakes : rxTakes (latched s) = true ↔ s.ports.rxValid = true ∧ accept s.ports.rxData s.ports.rxFerr = true :=
    Bool.and_eq_true_iff
  by_cases hx : s.ports.xportErr = true
  · rw [if_pos hx]
    exact ruleAwaitAck_transport (s := latched s) hx
  · have hfault : (latched s).ports.xportErr = false := Bool.eq_false_iff.mpr hx
    rw [if_neg hx]
    by_cases hb : s.ports.rxValid = true ∧ accept s.ports.rxData s.ports.rxFerr = true
    · rw [if_pos hb, ruleAwaitAck_some hfault hack (htakes.mpr hb), decideAck_eq, goto_eq_orExit]
      rfl
    · rw [if_neg hb, ruleAwaitAck_none hfault hack (Bool.eq_false_iff.mpr fun h => hb (htakes.mp h)), waitThen_eq]
      rfl

/-! ### The end of an attempt -/

/-- Settles O25: a wait whose target is `PowerDown` with and without an exit request. -/
theorem holdStep : Obligations.HoldStep := by
  intro s ho i hi
  have hrow : exec i s = stateStep ruleHold s := by rcases hi with rfl | rfl <;> rfl
  rw [hrow]
  refine stateStep_of_rule ho ?_
  rw [ruleHold, waitThen_eq]
  exact congrArg Host.Outcome.next (if_congr Iff.rfl (orExit_rowPowerDown _) rfl)

/-- The `PowerDown` step leaves by the latch, which holds the request of the step itself (R156, R168). -/
theorem finishAttempt_latched (s : State) : finishAttempt (latched s) =
    { cleared (latched s) with
      result := 0, state := if (s.exitPend || s.ports.exitReq) = true then 10 else 0 } := by
  have hexit : exitNow (latched s) = (s.exitPend || s.ports.exitReq) := exitNow_prelude s
  rw [finishAttempt, hexit]
  rfl

/-- Settles O26: the attempt cleared, and the edge of `Shutdown` with no rule. -/
theorem powerDownAndShutdownSteps : Obligations.PowerDownAndShutdownSteps := fun s ho =>
  ⟨stateStep_of_rule ho (congrArg Host.Outcome.next (finishAttempt_latched s)), clockEdge_ordinary ho⟩

end Sys2Proof.Machine
end

section
/-! PROOFS. The transition relation (O47) and the exit latch (O48). What a step without reset can do to `state` and `exit_pend` is said
once, of every state's rule: it leaves the latch alone and lands in one of the targets of its state. -/

namespace Sys2Proof.Machine

/-! ### The targets of a state -/

/-- The states that a step of the state with code `c` can leave the block in, with an exit request latched or made (`exit`) or without
one (R157, R170). The unused codes have none. -/
def targets (exit : Bool) (c : BitVec 4) : List (BitVec 4) :=
  match c.toNat with
  | 0 => if exit then [10] else [1, 0]
  | 1 => if exit then [9, 1] else [2, 1]
  | 2 => if exit then [9, 2] else [8, 3, 2]
  | 3 => if exit then [9] else [8, 4]
  | 4 => if exit then [9] else [8, 5]
  | 5 => if exit then [9, 5] else [8, 6, 5]
  | 6 => if exit then [9, 6] else [8, 7, 6]
  | 7 => [9, 7]
  | 8 => [9, 8]
  | 9 => if exit then [10] else [0]
  | 10 => [10]
  | _ => []

/-- With an exit request a step stays or goes to `PowerDown` or `Shutdown` (R157). -/
theorem eq_of_mem_targets_exit : ∀ c, ∀ d ∈ targets true c, d = c ∨ d = 9 ∨ d = 10 := by decide

/-- The rule's step from `s` to `t` keeps the exit latch and lands in a target. -/
def Lands (s t : State) : Prop := t.exitPend = s.exitPend ∧ t.state ∈ targets (exitNow s) s.state

section Lands

variable {s t : State} {c d : BitVec 4}

/-- A step that lands in a target of its state and its exit request. -/
theorem lands_of_mem {exit : Bool} (he : exitNow s = exit) (hs : s.state = c) (ht : t.state = d)
    (hlatch : t.exitPend = s.exitPend) (hmem : d ∈ targets exit c) : Lands s t :=
  ⟨hlatch, by rwa [he, hs, ht]⟩

/-- A step lands in a state that is a target with an exit request and without one. -/
theorem lands_of_both (hs : s.state = c) (ht : t.state = d) (hlatch : t.exitPend = s.exitPend)
    (hmem : ∀ exit, d ∈ targets exit c) : Lands s t :=
  lands_of_mem rfl hs ht hlatch (hmem _)

/-- An entry under the exit override lands in `PowerDown` or in its target (R157). -/
theorem orExit_lands {f : State → State} (hs : s.state = c) (ht : (f s).state = d) (hlatch : (f s).exitPend = s.exitPend)
    (hmem : 9 ∈ targets true c ∧ d ∈ targets false c) : Lands s (orExit s f) := by
  rw [← goto_eq_orExit]
  cases he : exitNow s with
  | true =>
    rw [goto_exit _ he]
    exact lands_of_mem he hs rfl rfl hmem.1
  | false =>
    rw [goto_enter _ he]
    exact lands_of_mem he hs ht hlatch hmem.2

/-- A wait stays or takes its entry (R175). -/
theorem waitThen_lands {enterY : State → State} (hs : s.state = c) (ht : ∀ u, (enterY u).state = d)
    (hlatch : ∀ u, (enterY u).exitPend = u.exitPend) (hmem : 9 ∈ targets true c ∧ d ∈ targets false c)
    (hstay : ∀ exit, c ∈ targets exit c) : Lands s (waitThen enterY s) := by
  rw [waitThen_eq]
  split
  · exact orExit_lands (s := { s with timer := 0 }) hs (ht _) (hlatch _) hmem
  · exact lands_of_both (s := s) hs hs rfl hstay

/-! ### Where each rule lands -/

theorem ruleIdle_lands (hs : s.state = 0) (ht : ruleIdle s = .next t) : Lands s t := by
  unfold ruleIdle at ht
  split_ifs at ht with he hstart <;> cases ht
  · exact lands_of_mem (d := 10) he hs rfl rfl (by decide)
  · exact lands_of_mem (d := 1) (Bool.eq_false_iff.mpr he) hs rfl rfl (by decide)
  · exact lands_of_mem (Bool.eq_false_iff.mpr he) hs hs rfl (by decide)

theorem rulePowerUp_lands (hs : s.state = 1) (ht : rulePowerUp s = .next t) : Lands s t := by
  cases ht
  exact waitThen_lands (d := 2) hs (fun _ => rfl) (fun _ => rfl) (by decide) (by decide)

/-- The end of a step of the inbound window (R113). -/
theorem windowStep_lands (hs : s.state = 2) : Lands s (windowStep s) := by
  rw [← windowStep_eq]
  split
  · rcases decodeInbound_cases s with ⟨-, heq⟩ | ⟨-, -, heq⟩ | ⟨-, -, heq⟩ <;> rw [heq]
    · exact orExit_lands (d := 8) hs rfl rfl (by decide)
    · exact orExit_lands (d := 8) hs rfl rfl (by decide)
    · exact orExit_lands (d := 3) hs rfl rfl (by decide)
  · exact lands_of_both hs hs rfl (by decide)

theorem ruleAwaitInbound_lands (hs : s.state = 2) (ht : ruleAwaitInbound s = .next t) : Lands s t := by
  cases hx : s.ports.xportErr with
  | true =>
    rw [ruleAwaitInbound_transport hx] at ht
    cases ht
    exact orExit_lands (d := 8) hs rfl rfl (by decide)
  | false =>
    cases htakes : rxTakes s with
    | false =>
      rw [ruleAwaitInbound_none hx htakes] at ht
      cases ht
      exact windowStep_lands (s := dec s) hs
    | true =>
      rcases Nat.lt_or_ge s.rxCnt 6 with hroom | hfull
      · rw [ruleAwaitInbound_some hx htakes hroom] at ht
        cases ht
        exact windowStep_lands (s := dec (withCharacter s.ports.rxData s)) hs
      · rw [ruleAwaitInbound_fault hx (rxCharInbound_full htakes hfull)] at ht
        cases ht

theorem ruleValidate_lands (hs : s.state = 3) (ht : ruleValidate s = .next t) : Lands s t := by
  unfold ruleValidate at ht
  split_ifs at ht <;> cases ht
  · exact orExit_lands (d := 4) hs rfl rfl (by decide)
  · exact orExit_lands (d := 8) hs rfl rfl (by decide)

theorem ruleCompute_lands (hs : s.state = 4) (ht : ruleCompute s = .next t) : Lands s t := by
  cases hsp : computeSetPoint s.cfg (decodeReading s.rxBuf) (refTemperature s) with
  | none =>
    rw [ruleCompute_none hsp] at ht
    cases ht
    exact orExit_lands (s := recorded _ _ s) (d := 8) hs rfl rfl (by decide)
  | some q =>
    rw [ruleCompute_some hsp] at ht
    cases ht
    exact orExit_lands (s := { recorded _ _ s with setpoint := q, setpointV := true }) (d := 5) hs rfl rfl (by decide)

theorem ruleEnc_lands (hs : s.state = 5) (ht : ruleEnc s = .next t) : Lands s t := by
  unfold ruleEnc at ht
  split at ht
  · cases ht
    exact orExit_lands (d := 8) hs rfl rfl (by decide)
  · rw [loadFrame_eq_next ht]
    exact lands_of_both hs hs rfl (by decide)

theorem ruleChar_lands (hs : s.state = 5) (ht : ruleChar s = .next t) : Lands s t := by
  unfold ruleChar at ht
  split_ifs at ht <;> cases ht
  · exact orExit_lands (d := 8) hs rfl rfl (by decide)
  · exact lands_of_both hs hs rfl (by decide)
  · exact lands_of_both hs hs rfl (by decide)

theorem ruleGap_lands (hs : s.state = 5) (ht : ruleGap s = .next t) : Lands s t := by
  unfold ruleGap at ht
  split_ifs at ht <;> cases ht
  · exact orExit_lands (d := 8) hs rfl rfl (by decide)
  · exact orExit_lands (s := dec s) (d := 6) hs rfl rfl (by decide)
  · exact lands_of_both hs hs rfl (by decide)
  · exact lands_of_both hs hs rfl (by decide)

theorem ruleTransmit_lands (hs : s.state = 5) (ht : ruleTransmit s = .next t) : Lands s t := by
  unfold ruleTransmit at ht
  split_ifs at ht
  · exact ruleEnc_lands hs ht
  · exact ruleChar_lands hs ht
  · exact ruleGap_lands hs ht

/-- The decision on the acknowledgement character (R165). -/
theorem decideAck_lands (hs : s.state = 6) : Lands s (decideAck s) := by
  unfold decideAck
  split
  · exact orExit_lands (d := 7) hs rfl rfl (by decide)
  · exact orExit_lands (d := 8) hs rfl rfl (by decide)

theorem ruleAwaitAck_lands (hs : s.state = 6) (ht : ruleAwaitAck s = .next t) : Lands s t := by
  unfold ruleAwaitAck at ht
  split_ifs at ht with hx hack htakes hexpired <;> cases ht
  · exact orExit_lands (d := 8) hs rfl rfl (by decide)
  · exact decideAck_lands hs
  · rw [rxCharAck, if_pos htakes]
    exact decideAck_lands (s := acked s.ports.rxData s) hs
  · exact orExit_lands (s := dec s) (d := 8) hs rfl rfl (by decide)
  · exact lands_of_both hs hs rfl (by decide)

theorem ruleHold_lands (hs : s.state = 7 ∨ s.state = 8) (ht : ruleHold s = .next t) : Lands s t := by
  cases ht
  rcases hs with hs | hs
  · exact waitThen_lands (s := { s with logPend := false }) (d := 9) hs (fun _ => rfl) (fun _ => rfl) (by decide) (by decide)
  · exact waitThen_lands (s := { s with logPend := false }) (d := 9) hs (fun _ => rfl) (fun _ => rfl) (by decide) (by decide)

theorem rulePowerDown_lands (hs : s.state = 9) (ht : rulePowerDown s = .next t) : Lands s t := by
  cases ht
  cases he : exitNow s with
  | true => exact lands_of_mem (d := 10) he hs (if_pos he) rfl (by decide)
  | false => exact lands_of_mem (d := 0) he hs (if_neg (Bool.eq_false_iff.mp he)) rfl (by decide)

/-! ### Where a step lands -/

/-- Without reset, a completed edge did what its rule did on the registers, under the configuration sampled. -/
theorem clockEdge_rule {rule : State → Result} (hr : s.ports.rst = false) (ht : clockEdge rule s = .next t) :
    ∃ cfg u, rule { s with cfg := cfg } = .next u ∧ t = advance u := by
  obtain ⟨s1, hs1, ⟨hrst, -⟩ | ⟨-, -, u, hu, rfl⟩⟩ := clockEdge_eq_next ht
  · obtain ⟨-, hports, -⟩ := sampleConfig_same hs1
    rw [hports, hr] at hrst
    exact absurd hrst Bool.false_ne_true
  · obtain ⟨hcfg, -, -⟩ := sampleConfig_cases hs1
    exact ⟨s1.cfg, u, hcfg ▸ hu, rfl⟩

/-- The step from `s` to `t` has latched the request, but in `Shutdown` (R156, R169), and lands in a target. -/
def StepLands (s t : State) : Prop :=
  t.exitPend = (if s.state = 10 then s.exitPend else exitNow s) ∧ t.state ∈ targets (exitNow s) s.state

/-- A step outside `Shutdown` latches the request, then lands where its rule lands (R156). -/
theorem stateStep_lands {rule : State → Result} (hr : s.ports.rst = false) (hs : s.state = c) (hc : c ≠ 10)
    (hrule : ∀ {u v}, u.state = c → rule u = .next v → Lands u v) (ht : stateStep rule s = .next t) : StepLands s t := by
  obtain ⟨cfg, u, hu, rfl⟩ := clockEdge_rule hr ht
  obtain ⟨hlatch, hmem⟩ := hrule (u := prelude { s with cfg := cfg }) hs hu
  rw [exitNow_prelude] at hmem
  exact ⟨hlatch.trans (if_neg (hs ▸ hc)).symm, hmem⟩

/-- Where a step without reset lands. -/
theorem runState_lands (hr : s.ports.rst = false) (ht : runState s = .next t) : StepLands s t := by
  rcases runState_eq s with ⟨hs, hrun⟩ | ⟨hs, hrun⟩ | ⟨hs, hrun⟩ | ⟨hs, hrun⟩ | ⟨hs, hrun⟩ | ⟨hs, hrun⟩ | ⟨hs, hrun⟩ |
    ⟨hs, hrun⟩ | ⟨hs, hrun⟩ | ⟨hs, hrun⟩ | ⟨hs, hrun⟩ | ⟨hs, hrun⟩ <;> rw [hrun] at ht
  · exact stateStep_lands hr hs (by decide) ruleIdle_lands ht
  · exact stateStep_lands hr hs (by decide) rulePowerUp_lands ht
  · exact stateStep_lands hr hs (by decide) ruleAwaitInbound_lands ht
  · exact stateStep_lands hr hs (by decide) ruleValidate_lands ht
  · exact stateStep_lands hr hs (by decide) ruleCompute_lands ht
  · exact stateStep_lands hr hs (by decide) ruleTransmit_lands ht
  · exact stateStep_lands hr hs (by decide) ruleAwaitAck_lands ht
  · exact stateStep_lands hr hs (by decide) (fun hc => ruleHold_lands (.inl hc)) ht
  · exact stateStep_lands hr hs (by decide) (fun hc => ruleHold_lands (.inr hc)) ht
  · exact stateStep_lands hr hs (by decide) rulePowerDown_lands ht
  · obtain ⟨cfg, u, hu, rfl⟩ := clockEdge_rule hr ht
    cases hu
    exact ⟨(if_pos hs).symm, by rw [hs]; exact List.mem_singleton_self _⟩
  · obtain ⟨cfg, u, hu, rfl⟩ := clockEdge_rule hr ht
    cases hu

end Lands

/-- Settles O47: every state's targets stand in the table. -/
theorem transitionTable : Obligations.TransitionTable := by
  intro s t h hr ht
  rw [step_eq_runState h.slot_free] at ht
  obtain ⟨-, hmem⟩ := runState_lands hr ht
  revert hmem
  generalize exitNow s = exit, s.state = c, t.state = d
  revert exit c d
  decide

/-- Settles O48: the targets under an exit request. -/
theorem exitRequestIsLatchedAndReplacesTargets : Obligations.ExitRequestIsLatchedAndReplacesTargets := by
  intro s t hslot hr ht
  rw [step_eq_runState hslot] at ht
  obtain ⟨hlatch, hmem⟩ := runState_lands hr ht
  refine ⟨hlatch, fun hexit => ?_⟩
  rw [show exitNow s = true from hexit] at hmem
  exact eq_of_mem_targets_exit _ _ hmem

end Sys2Proof.Machine
end

section
/-! PROOFS. Timed waits over several steps: the settle wait (O55), and the hold of `Pass` and `Fail` to the end of the attempt (O57).
While ticks are missing each step makes the same kind of register update, so the run is proved once, of the update of its inputs; then
comes the step that ends the wait. -/

namespace Sys2Proof.Machine

/-! ### Runs of ordinary steps -/

theorem runSteps_succ (n : Nat) (s : State) : runSteps (n + 1) s = andThen (runSteps n s) step := by
  induction n generalizing s with
  | zero => exact runSteps_one s
  | succ n ih =>
    rw [runSteps, runSteps]
    cases step s with
    | next t => exact ih t
    | fault e => rfl
    | refused e => rfl

section Run

variable {after : List Inputs → State → State} {n m : Nat} {s : State}

/-- The state after the first `m` inputs, which each made their update. -/
def afterInputs (after : List Inputs → State → State) (m : Nat) (s : State) : State :=
  takeInputs m (after ((listed s).take m) s)

/-- The next input makes its update on the ones before. -/
theorem after_afterInputs (ha : Accumulates after) (hm : m < (listed s).length) :
    after [(afterInputs after m s).ports] (afterInputs after m s) = takeInputs m (after ((listed s).take (m + 1)) s) := by
  have hlen : m < (listed (after ((listed s).take m) s)).length := by rwa [ha.listed]
  have hports : (afterInputs after m s).ports = (listed s)[m] := by
    unfold afterInputs
    rw [takeInputs_eq hlen, ha.listed, List.getD_eq_getElem _ _ hm]
  rw [hports, List.take_succ_eq_append_getElem hm, ha.append, takeInputs_update (ha.advance _)]
  rfl

/-- Every step of an ordinary run is an ordinary one. -/
theorem ordinary_afterInputs (ha : Accumulates after) (ho : OrdinaryFor n s) (hm : m < n) :
    Ordinary (afterInputs after m s) := by
  obtain ⟨hn, hw, hall⟩ := ho
  have hlen : m < (listed s).length := hm.trans_le hn
  have hlen' : m < (listed (after ((listed s).take m) s)).length := by rwa [ha.listed]
  obtain ⟨hrst, hlines⟩ := hall (listed s)[m] (List.mem_take_iff_getElem.mpr ⟨m, lt_min hm hlen, rfl⟩)
  unfold afterInputs
  rw [takeInputs_eq hlen', ha.listed, List.getD_eq_getElem _ _ hlen]
  exact ⟨hrst, hlines, by rw [ha.cfg, hw]⟩

/-- Steps that make the update of their input take the run there. -/
theorem runSteps_afterInputs (ha : Accumulates after) (hn : n ≤ (listed s).length)
    (hstep : ∀ m, m < n → ∀ v, v = afterInputs after m s → step v = .next (advance (after [v.ports] v))) :
    runSteps n s = .next (afterInputs after n s) := by
  induction n with
  | zero =>
    rw [afterInputs, List.take_zero, ha.nil]
    rfl
  | succ n ih =>
    rw [runSteps_succ, ih (by omega) (fun m hm => hstep m (by omega)), andThen_next, hstep n (by omega) _ rfl,
      after_afterInputs ha hn, ← takeInputs_succ]
    rfl

end Run

/-! ### The settle wait -/

/-- A wait's step, in the register update of its input (R156, R175). -/
theorem waitThen_prelude (enterY : State → State) (s : State) : waitThen enterY (prelude s) =
    if (waited [s.ports] s).timer = 0 then goto enterY (waited [s.ports] s) else waited [s.ports] s := by
  rw [waitThen, dec_prelude]
  exact if_congr beq_iff_eq rfl rfl

theorem step_powerUp {s : State} (hslot : s.slot = none) (hs : s.state = 1) (ho : Ordinary s) :
    step s = .next (advance (if (waited [s.ports] s).timer = 0 then goto enterAwaitInbound (waited [s.ports] s)
      else waited [s.ports] s)) := by
  have hrow : runState s = execStPowerup s := by
    rw [← exec_decodeState, hs]
    rfl
  rw [step_eq_runState hslot, hrow, execStPowerup, stateStep_ordinary ho, rulePowerUp, waitThen_prelude, andThen_next]

section Wait

variable {n m : Nat} {s : State}

/-- The ticks and the exit requests of the step after `m` steps of waiting. -/
theorem waited_afterInputs (hm : m < (listed s).length) {v : State} (hv : v = afterInputs waited m s) :
    (waited [v.ports] v).timer = s.timer - ticksOf ((listed s).take (m + 1)) ∧
      exitNow (waited [v.ports] v) = (s.exitPend || exitsOf ((listed s).take (m + 1))) := by
  have hlatch : exitNow (waited [v.ports] v) = (waited [v.ports] v).exitPend := latched_exit v
  rw [hlatch, hv, after_afterInputs accumulates_waited hm]
  exact ⟨takeInputs_keeps (f := State.timer) (fun _ => rfl) _ _, takeInputs_keeps (f := State.exitPend) (fun _ => rfl) _ _⟩

/-- The step of `PowerUp` after `m` steps there. -/
theorem step_settling (hslot : s.slot = none) (hs : s.state = 1) (ho : OrdinaryFor n s) (hm : m < n) {v : State}
    (hv : v = afterInputs waited m s) : step v = .next (advance (
      if s.timer - ticksOf ((listed s).take (m + 1)) = 0 then goto enterAwaitInbound (waited [v.ports] v)
      else waited [v.ports] v)) := by
  have hvslot : v.slot = none := hv ▸ (takeInputs_slot _ _).trans hslot
  have hvstate : v.state = 1 := hv ▸ (takeInputs_state _ _).trans hs
  have hvord : Ordinary v := hv ▸ ordinary_afterInputs accumulates_waited ho hm
  rw [step_powerUp hvslot hvstate hvord, (waited_afterInputs (hm.trans_le ho.1) hv).1]

/-- The settle wait lasts while ticks are missing. -/
theorem runSteps_settling (hslot : s.slot = none) (hs : s.state = 1) (ho : OrdinaryFor n s) (hm : m ≤ n)
    (hticks : ticksOf ((listed s).take m) < s.timer) : runSteps m s = .next (afterInputs waited m s) := by
  refine runSteps_afterInputs accumulates_waited (hm.trans ho.1) fun k hk v hv => ?_
  have hfewer : ticksOf ((listed s).take (k + 1)) ≤ ticksOf ((listed s).take m) := ticksOf_take_le hk _
  rw [step_settling hslot hs ho (Nat.lt_of_lt_of_le hk hm) hv, if_neg (by omega)]

end Wait

/-- Settles O55: the wait over the first `n` inputs, then the step on the next one. -/
theorem settleWaitLastsItsTicks : Obligations.SettleWaitLastsItsTicks := by
  intro s n hslot hs ho hticks
  have hwait : runSteps n s = .next (afterInputs waited n s) := runSteps_settling hslot hs ho (Nat.le_succ n) hticks
  have hlen : n < (listed s).length := ho.1
  have hstay : (waited [(afterInputs waited n s).ports] (afterInputs waited n s)).state = 1 :=
    (takeInputs_state _ _).trans hs
  refine ⟨hwait, _, by rw [runSteps_succ, hwait, andThen_next, step_settling hslot hs ho n.lt_succ_self rfl], ?_⟩
  obtain ⟨-, hexit⟩ := waited_afterInputs hlen (s := s) rfl
  rw [← hexit]
  by_cases hover : s.timer - ticksOf ((listed s).take (n + 1)) = 0
  · have hleft : (9 : BitVec 4) ≠ 1 ∧ (2 : BitVec 4) ≠ 1 := by decide
    rw [if_pos hover]
    split_ifs with hnow
    · rw [goto_exit _ hnow]
      exact ⟨iff_of_false hleft.1 (by omega), fun _ => rfl⟩
    · rw [goto_enter _ (Bool.eq_false_iff.mpr hnow)]
      exact ⟨iff_of_false hleft.2 (by omega), fun _ => rfl⟩
  · rw [if_neg hover]
    exact ⟨iff_of_true hstay (by omega), fun h => absurd hstay h⟩

/-! ### The hold of `Pass` and `Fail` -/

/-- The registers after the inputs `ins` of a hold: a wait whose first step ends the log strobe (R166, R167). -/
def held (ins : List Inputs) (s : State) : State := { waited ins s with logPend := s.logPend && ins.isEmpty }

theorem accumulates_held : Accumulates held where
  nil s := by rw [held, accumulates_waited.nil]; simp
  append a b s := by
    have hempty : (a ++ b).isEmpty = (a.isEmpty && b.isEmpty) := by cases a <;> rfl
    rw [held, accumulates_waited.append, hempty, ← Bool.and_assoc]
    rfl
  advance _ _ := rfl
  listed _ _ := rfl
  cfg _ _ := rfl

theorem step_hold {s : State} (hslot : s.slot = none) (hs : s.state = 7 ∨ s.state = 8) (ho : Ordinary s) :
    step s = .next (advance (if (held [s.ports] s).timer = 0 then enterPowerDown (held [s.ports] s)
      else held [s.ports] s)) := by
  have hrow : runState s = stateStep ruleHold s := by
    rw [← exec_decodeState]
    rcases hs with hs | hs <;> rw [hs] <;> rfl
  have hheld : waited [s.ports] { s with logPend := false } = held [s.ports] s := by
    rw [held, List.isEmpty_cons, Bool.and_false]
    rfl
  have hrule : ruleHold (prelude s) = .next (
      if (held [s.ports] s).timer = 0 then enterPowerDown (held [s.ports] s) else held [s.ports] s) := by
    rw [← hheld]
    refine (congrArg Host.Outcome.next (waitThen_prelude enterPowerDown { s with logPend := false })).trans ?_
    rw [goto_eq_orExit]
    exact congrArg Host.Outcome.next (if_congr Iff.rfl (orExit_rowPowerDown _) rfl)
  rw [step_eq_runState hslot, hrow, stateStep_ordinary ho, hrule, andThen_next]

/-- The step of `PowerDown` from an unpowered device leaves nothing of the attempt (R168, R203). -/
theorem step_powerDown {s : State} (hslot : s.slot = none) (hs : s.state = 9) (ho : Ordinary s) (hdev : s.devPower = false)
    (hprog : s.progEn = false) (hline : s.txLineActive = false) :
    ∃ u, step s = .next u ∧ u.state = (if exitNow s = true then 10 else 0) ∧ u.devPower = false ∧ u.progEn = false ∧
      u.txLineActive = false ∧ u.result = 0 ∧ cleared u = u := by
  have hstep : step s = exec .stPowerdown s := by
    rw [step_eq_runState hslot, ← exec_decodeState, hs]
    rfl
  exact ⟨_, hstep.trans (powerDownAndShutdownSteps s ho).1, rfl, hdev, hprog, hline, rfl, rfl⟩

section Hold

variable {n m : Nat} {s : State}

/-- The exit requests by the step after `m` steps of a hold. -/
theorem exitNow_afterHeld (hm : m < (listed s).length) :
    exitNow (afterInputs held m s) = (s.exitPend || exitsOf ((listed s).take (m + 1))) := by
  have hlatch : (held [(afterInputs held m s).ports] (afterInputs held m s)).exitPend = exitNow (afterInputs held m s) :=
    congrArg ((afterInputs held m s).exitPend || ·) (exitsOf_singleton _)
  rw [← hlatch, after_afterInputs accumulates_held hm]
  exact takeInputs_keeps (f := State.exitPend) (fun _ => rfl) _ _

/-- The step of the hold after `m` steps there. -/
theorem step_holding (hslot : s.slot = none) (hs : s.state = 7 ∨ s.state = 8) (ho : OrdinaryFor n s) (hm : m < n) {v : State}
    (hv : v = afterInputs held m s) : step v = .next (advance (
      if s.timer - ticksOf ((listed s).take (m + 1)) = 0 then enterPowerDown (held [v.ports] v) else held [v.ports] v)) := by
  have hvslot : v.slot = none := hv ▸ (takeInputs_slot _ _).trans hslot
  have hvstate : v.state = 7 ∨ v.state = 8 := by rwa [hv, afterInputs, takeInputs_state]
  have hvord : Ordinary v := hv ▸ ordinary_afterInputs accumulates_held ho hm
  have htimer : (held [v.ports] v).timer = s.timer - ticksOf ((listed s).take (m + 1)) := by
    rw [hv, after_afterInputs accumulates_held (hm.trans_le ho.1)]
    exact takeInputs_keeps (f := State.timer) (fun _ => rfl) _ _
  rw [step_hold hvslot hvstate hvord, htimer]

/-- The hold lasts while ticks are missing, and the step that brings the last one enters `PowerDown`. -/
theorem runSteps_holdEnds (hslot : s.slot = none) (hs : s.state = 7 ∨ s.state = 8) (ho : OrdinaryFor n s) (hm : m < n)
    (hopen : ∀ k, 0 < k → k ≤ m → ticksOf ((listed s).take k) < s.timer)
    (hticks : s.timer ≤ ticksOf ((listed s).take (m + 1))) :
    runSteps (m + 1) s = .next (enterPowerDown (afterInputs held (m + 1) s)) := by
  have hhold : runSteps m s = .next (afterInputs held m s) := by
    refine runSteps_afterInputs accumulates_held (hm.le.trans ho.1) fun k hk v hv => ?_
    have hmissing := hopen (k + 1) k.succ_pos hk
    rw [step_holding hslot hs ho (hk.trans hm) hv, if_neg (by omega)]
  rw [runSteps_succ, hhold, andThen_next, step_holding hslot hs ho hm rfl, if_pos (by omega),
    after_afterInputs accumulates_held (hm.trans_le ho.1), afterInputs, takeInputs_succ]
  rfl

/-- The first of the steps by which the ticks of a timer have come. -/
theorem exists_first_tick (hn : 0 < n) (hticks : s.timer ≤ ticksOf ((listed s).take n)) :
    ∃ m, m < n ∧ s.timer ≤ ticksOf ((listed s).take (m + 1)) ∧
      ∀ k, 0 < k → k ≤ m → ticksOf ((listed s).take k) < s.timer := by
  have hex : ∃ m, s.timer ≤ ticksOf ((listed s).take (m + 1)) := ⟨n - 1, by rwa [Nat.sub_add_cancel hn]⟩
  refine ⟨Nat.find hex, ?_, Nat.find_spec hex, fun k hk hle => ?_⟩
  · have := Nat.find_min' hex (m := n - 1) (by rwa [Nat.sub_add_cancel hn])
    omega
  · obtain ⟨k, rfl⟩ := Nat.exists_eq_add_one.mpr hk
    exact Nat.lt_of_not_le (Nat.find_min hex hle)

end Hold

/-- Settles O57: the first step by which the hold's ticks have come, and the step of `PowerDown` after it. -/
theorem everyOutcomePowersDown : Obligations.EveryOutcomePowersDown := by
  intro s n h hs hn ho hticks
  obtain ⟨m, hm, hlast, hopen⟩ := exists_first_tick hn hticks
  have hdown := runSteps_holdEnds h.slot_free hs ho (by omega) hopen hlast
  have hlen : m + 1 < (listed s).length := (Nat.succ_lt_succ hm).trans_le ho.1
  have hslot : (afterInputs held (m + 1) s).slot = none := (takeInputs_slot _ _).trans h.slot_free
  have hord : Ordinary (afterInputs held (m + 1) s) := ordinary_afterInputs accumulates_held ho (by omega)
  have hexit : exitNow (afterInputs held (m + 1) s) = (s.exitPend || exitsOf ((listed s).take (m + 2))) :=
    exitNow_afterHeld hlen
  obtain ⟨u, hu, hstate, hcleared⟩ :=
    step_powerDown (s := enterPowerDown (afterInputs held (m + 1) s)) hslot rfl hord rfl rfl rfl
  refine ⟨m + 1, _, u, m.succ_pos, hm, hdown, rfl, rfl, rfl, by rw [runSteps_succ, hdown, andThen_next, hu],
    hstate.trans ?_, hcleared⟩
  rw [← hexit]
  rfl

end Sys2Proof.Machine
end

section
/-! PROOFS. The rows that raise a failure (O44), and what a step reads of its inputs (O49). A step with other inputs at its ports is
the same step if they agree with the old ones where the current state has a rule that reads them; each statement of O49 is one input on
which they need not agree. -/

namespace Sys2Proof.Machine

/-! ### The rows that raise a failure -/

/-- A reason row takes its failure, under the exit override (R157, R202). -/
theorem raiseRow_legal {s : State} (hw : s.cfg.wf = true) (r : Reason) :
    raiseRow r s = .next (orExit s (rowFail r.code)) := by
  rw [raiseRow, underLegalConfig_legal hw, raiseFail_eq_orExit]

/-- Settles O44: each row names its reason, and `DECODEINBOUND` is the end of the inbound window. -/
theorem rowsThatRaiseFailures : Obligations.RowsThatRaiseFailures := by
  intro s hw
  refine ⟨?reasons, ?decode⟩
  case reasons =>
    simp only [List.forall_mem_cons]
    exact ⟨raiseRow_legal hw .incomplete, raiseRow_legal hw .badSentinel, raiseRow_legal hw .checksumMismatch,
      raiseRow_legal hw .invalidReading, raiseRow_legal hw .valueOutOfRange, raiseRow_legal hw .transportError,
      raiseRow_legal hw .unverified, nofun⟩
  case decode =>
    calc exec .decodeinbound s = .next (decodeInbound s) :=
          underLegalConfig_legal (op := fun t => .next (decodeInbound t)) hw
      _ = _ := congrArg Host.Outcome.next (decodeInbound_eq_orExit s)

/-! ### Other inputs at the ports -/

/-- The state with other inputs at its ports. -/
def withInputs (p : Inputs) (s : State) : State := { s with ports := p }

/-- The rule does not tell these inputs from the ones it has: it answers the same, these still at the ports. -/
def IgnoresInputs (p : Inputs) (rule : State → Result) (s : State) : Prop :=
  rule (withInputs p s) = andThen (rule s) (fun t => .next (withInputs p t))

/-- The inputs carry the byte that is at the ports. -/
structure SameByte (p q : Inputs) : Prop where
  valid : p.rxValid = q.rxValid
  data : p.rxData = q.rxData
  ferr : p.rxFerr = q.rxFerr

section OtherInputs

variable {p : Inputs} {s : State}

/-- The next inputs take the place of either (log entry 1). -/
theorem IgnoresInputs.advance_eq {rule : State → Result} (h : IgnoresInputs p rule s) :
    andThen (rule (withInputs p s)) (fun t => .next (advance t)) = andThen (rule s) (fun t => .next (advance t)) := by
  rw [h]
  cases rule s <;> rfl

/-- The prelude reads the exit request (R156). -/
theorem IgnoresInputs.after_prelude {rule : State → Result} (hexit : p.exitReq = s.ports.exitReq)
    (h : IgnoresInputs p rule (prelude s)) : IgnoresInputs p (fun t => rule (prelude t)) s := by
  have hprelude : prelude (withInputs p s) = withInputs p (prelude s) := by
    unfold prelude exitNow
    rw [← hexit]
    rfl
  exact (congrArg rule hprelude).trans h

theorem rxTakes_withInputs (hbyte : SameByte p s.ports) : rxTakes (withInputs p s) = rxTakes s := by
  unfold rxTakes
  rw [← hbyte.valid, ← hbyte.data, ← hbyte.ferr]
  rfl

theorem timerAfter_withInputs (htick : p.tick = s.ports.tick) : timerAfter (withInputs p s) = timerAfter s := by
  unfold timerAfter
  rw [← htick]
  rfl

theorem dec_withInputs (htick : p.tick = s.ports.tick) : dec (withInputs p s) = withInputs p (dec s) := by
  unfold dec
  rw [← htick]
  rfl

/-- The exit override reads the exit request, besides what the target reads (R157). -/
theorem orExit_withInputs {f g : State → State} (hexit : p.exitReq = s.ports.exitReq)
    (h : f (withInputs p s) = withInputs p (g s)) : orExit (withInputs p s) f = withInputs p (orExit s g) := by
  unfold orExit
  rw [← hexit, h, apply_ite (withInputs p)]
  rfl

theorem windowStep_withInputs (hexit : p.exitReq = s.ports.exitReq) :
    windowStep (withInputs p s) = withInputs p (windowStep s) := by
  unfold windowStep
  rw [apply_ite (withInputs p), ← orExit_withInputs hexit]
  · rfl
  · rw [apply_ite (withInputs p), apply_ite (withInputs p)]
    rfl

theorem waitThen_withInputs {enterY : State → State} (hexit : p.exitReq = s.ports.exitReq) (htick : p.tick = s.ports.tick)
    (h : ∀ u, enterY (withInputs p u) = withInputs p (enterY u)) :
    waitThen enterY (withInputs p s) = withInputs p (waitThen enterY s) := by
  rw [waitThen_eq, waitThen_eq, timerAfter_withInputs htick, apply_ite (withInputs p),
    ← orExit_withInputs (s := { s with timer := 0 }) hexit (h _)]
  rfl

/-! ### What each rule reads -/

theorem ruleIdle_ignoresInputs (hexit : p.exitReq = s.ports.exitReq) (hstart : p.startReq = s.ports.startReq) :
    IgnoresInputs p ruleIdle s := by
  have hnow : exitNow (withInputs p s) = exitNow s := congrArg (s.exitPend || ·) hexit
  have hreq : (withInputs p s).ports.startReq = s.ports.startReq := hstart
  unfold IgnoresInputs ruleIdle
  rw [hnow, hreq]
  split_ifs <;> rfl

theorem rulePowerUp_ignoresInputs (hexit : p.exitReq = s.ports.exitReq) (htick : p.tick = s.ports.tick) :
    IgnoresInputs p rulePowerUp s :=
  congrArg Host.Outcome.next (waitThen_withInputs hexit htick fun _ => rfl)

/-- A rule that looks for the transport fault first reads that input, and without the fault what the rest of it reads (R96). -/
theorem ignoresInputs_of_transport {rule : State → Result}
    (hfault : ∀ {u : State}, u.ports.xportErr = true → rule u = .next (orExit u (rowFail 6)))
    (hexit : p.exitReq = s.ports.exitReq) (herr : p.xportErr = s.ports.xportErr)
    (hrest : s.ports.xportErr = false → (withInputs p s).ports.xportErr = false → IgnoresInputs p rule s) :
    IgnoresInputs p rule s := by
  cases hx : s.ports.xportErr with
  | false => exact hrest hx (herr.trans hx)
  | true =>
    unfold IgnoresInputs
    rw [hfault hx, hfault (u := withInputs p s) (herr.trans hx)]
    exact congrArg Host.Outcome.next (orExit_withInputs hexit rfl)

theorem ruleAwaitInbound_ignoresInputs (hexit : p.exitReq = s.ports.exitReq) (htick : p.tick = s.ports.tick)
    (herr : p.xportErr = s.ports.xportErr) (hbyte : SameByte p s.ports) : IgnoresInputs p ruleAwaitInbound s := by
  refine ignoresInputs_of_transport ruleAwaitInbound_transport hexit herr fun hx hx' => ?_
  unfold IgnoresInputs
  cases ht : rxTakes s with
  | false =>
    rw [ruleAwaitInbound_none hx ht, ruleAwaitInbound_none hx' ((rxTakes_withInputs hbyte).trans ht), dec_withInputs htick,
      andThen_next, windowStep_withInputs (s := dec s) hexit]
  | true =>
    have ht' : rxTakes (withInputs p s) = true := (rxTakes_withInputs hbyte).trans ht
    by_cases hc : s.rxCnt < 6
    · have hdata : (withInputs p s).ports.rxData = s.ports.rxData := hbyte.data
      rw [ruleAwaitInbound_some hx ht hc, ruleAwaitInbound_some (s := withInputs p s) hx' ht' hc, hdata, andThen_next,
        ← windowStep_withInputs (s := dec (withCharacter s.ports.rxData s)) hexit,
        ← dec_withInputs (s := withCharacter s.ports.rxData s) htick]
      rfl
    · have hfull : 6 ≤ s.rxCnt := Nat.not_lt.mp hc
      rw [ruleAwaitInbound_fault hx (rxCharInbound_full ht hfull),
        ruleAwaitInbound_fault hx' (rxCharInbound_full ht' hfull), andThen_fault]

theorem ruleValidate_ignoresInputs (hexit : p.exitReq = s.ports.exitReq) : IgnoresInputs p ruleValidate s := by
  unfold IgnoresInputs
  rw [ruleValidate_eq, ruleValidate_eq]
  refine congrArg Host.Outcome.next (orExit_withInputs hexit ?_)
  rw [apply_ite (withInputs p)]
  rfl

/-- The reference temperature is read with the sensor only (R163). -/
theorem refTemperature_withInputs (href : s.cfg.useSensor = true → p.refTemp = s.ports.refTemp) :
    refTemperature (withInputs p s) = refTemperature s := by
  have hport : (if s.cfg.useSensor = true then p.refTemp else s.cfg.refTempDefault) =
      if s.cfg.useSensor = true then s.ports.refTemp else s.cfg.refTempDefault := ite_congr rfl href fun _ => rfl
  exact congrArg (sext s.cfg.tempW) hport

theorem concludeCompute_withInputs (q : Option Int) (hexit : p.exitReq = s.ports.exitReq) :
    concludeCompute q (withInputs p s) = withInputs p (concludeCompute q s) := by
  cases q with
  | none => exact orExit_withInputs hexit rfl
  | some sp => exact orExit_withInputs (s := { s with setpoint := sp, setpointV := true }) hexit rfl

theorem ruleCompute_ignoresInputs (hexit : p.exitReq = s.ports.exitReq)
    (href : s.cfg.useSensor = true → p.refTemp = s.ports.refTemp) : IgnoresInputs p ruleCompute s := by
  have htemp : refTemperature (withInputs p s) = refTemperature s := refTemperature_withInputs href
  have hrecord : recordReading (withInputs p s) = withInputs p (recordReading s) := by
    unfold recordReading
    rw [htemp]
    rfl
  unfold IgnoresInputs ruleCompute
  rw [htemp, hrecord]
  exact congrArg Host.Outcome.next (concludeCompute_withInputs (s := recordReading s) _ hexit)

/-- Phase `ENC` reads the exit request; the frame fits its buffer (R116, R164). -/
theorem ruleEnc_ignoresInputs (hw : s.cfg.wf = true) (hexit : p.exitReq = s.ports.exitReq) : IgnoresInputs p ruleEnc s := by
  have hframe : encodeFrame (withInputs p s).cfg (withInputs p s).setpoint = encodeFrame s.cfg s.setpoint := rfl
  unfold IgnoresInputs ruleEnc
  rw [hframe]
  cases hf : encodeFrame s.cfg s.setpoint with
  | none => exact congrArg Host.Outcome.next (orExit_withInputs hexit rfl)
  | some f =>
    obtain ⟨-, -, -, hlen⟩ := encodeFrame_length hw hf
    dsimp only
    rw [loadFrame_eq hlen, loadFrame_eq hlen]
    rfl

/-- Phase `CHAR` with no transport fault waits for the answer (R140, R164). -/
theorem ruleChar_eq (hx : s.ports.xportErr = false) : ruleChar s = .next (
    if s.ports.txDone = true then { s with timer := s.cfg.txGapTicks, txPhase := 2 } else s) := by
  rw [ruleChar, hx, if_neg Bool.false_ne_true, apply_ite Host.Outcome.next]
  rfl

theorem ruleChar_ignoresInputs (hexit : p.exitReq = s.ports.exitReq) (herr : p.xportErr = s.ports.xportErr)
    (hdone : p.txDone = s.ports.txDone) : IgnoresInputs p ruleChar s := by
  refine ignoresInputs_of_transport (fun hx => if_pos hx) hexit herr fun hx hx' => ?_
  have hanswer : (withInputs p s).ports.txDone = s.ports.txDone := hdone
  unfold IgnoresInputs
  rw [ruleChar_eq hx, ruleChar_eq hx', hanswer, andThen_next, apply_ite (withInputs p)]
  rfl

theorem ruleGap_ignoresInputs (hexit : p.exitReq = s.ports.exitReq) (herr : p.xportErr = s.ports.xportErr)
    (htick : p.tick = s.ports.tick) : IgnoresInputs p ruleGap s := by
  refine ignoresInputs_of_transport (fun hx => if_pos hx) hexit herr fun hx hx' => ?_
  unfold IgnoresInputs
  rw [ruleGap_eq hx, ruleGap_eq hx', timerAfter_withInputs htick, andThen_next, apply_ite (withInputs p),
    apply_ite (withInputs p), ← orExit_withInputs (s := { s with timer := 0 }) (f := enterAwaitAck) hexit rfl]
  rfl

/-- `Transmit` reads what its phase reads (R164). -/
theorem ruleTransmit_ignoresInputs (hw : s.cfg.wf = true) (hexit : p.exitReq = s.ports.exitReq)
    (herr : s.txPhase ≠ 0 → p.xportErr = s.ports.xportErr) (hdone : s.txPhase = 1 → p.txDone = s.ports.txDone)
    (htick : s.txPhase = 2 → p.tick = s.ports.tick) : IgnoresInputs p ruleTransmit s := by
  have hphase : (withInputs p s).txPhase = s.txPhase := rfl
  unfold IgnoresInputs ruleTransmit
  rw [hphase]
  split_ifs with henc hchar hgap
  · exact ruleEnc_ignoresInputs hw hexit
  · exact ruleChar_ignoresInputs hexit (herr henc) (hdone hchar)
  · exact ruleGap_ignoresInputs hexit (herr henc) (htick hgap)
  · rfl

theorem decideAck_withInputs (hexit : p.exitReq = s.ports.exitReq) :
    decideAck (withInputs p s) = withInputs p (decideAck s) := by
  rw [decideAck_eq, decideAck_eq]
  refine orExit_withInputs hexit ?_
  have hchar : (withInputs p s).ackChar = s.ackChar := rfl
  rw [hchar]
  split_ifs <;> rfl

/-- A window that has its character is decided by it (log entry 9). -/
theorem ruleAwaitAck_decided (hx : s.ports.xportErr = false) (hack : s.ackV = true) :
    ruleAwaitAck s = .next (decideAck s) := by
  rw [ruleAwaitAck, hx, if_neg Bool.false_ne_true, if_pos hack]

theorem ruleAwaitAck_ignoresInputs (hexit : p.exitReq = s.ports.exitReq) (htick : p.tick = s.ports.tick)
    (herr : p.xportErr = s.ports.xportErr) (hbyte : SameByte p s.ports) : IgnoresInputs p ruleAwaitAck s := by
  refine ignoresInputs_of_transport ruleAwaitAck_transport hexit herr fun hx hx' => ?_
  unfold IgnoresInputs
  cases hack : s.ackV with
  | true =>
    rw [ruleAwaitAck_decided hx hack, ruleAwaitAck_decided hx' hack, decideAck_withInputs hexit, andThen_next]
  | false =>
    cases ht : rxTakes s with
    | false =>
      rw [ruleAwaitAck_none hx hack ht, ruleAwaitAck_none hx' hack ((rxTakes_withInputs hbyte).trans ht), andThen_next,
        waitThen_withInputs (enterY := rowFail 7) hexit htick fun _ => rfl]
    | true =>
      have hdata : (withInputs p s).ports.rxData = s.ports.rxData := hbyte.data
      rw [ruleAwaitAck_some hx hack ht, ruleAwaitAck_some hx' hack ((rxTakes_withInputs hbyte).trans ht), hdata, andThen_next,
        ← decideAck_withInputs (s := { s with ackChar := s.ports.rxData, ackV := true }) hexit]
      rfl

theorem ruleHold_ignoresInputs (hexit : p.exitReq = s.ports.exitReq) (htick : p.tick = s.ports.tick) :
    IgnoresInputs p ruleHold s :=
  congrArg Host.Outcome.next (waitThen_withInputs (s := { s with logPend := false }) hexit htick fun _ => rfl)

theorem rulePowerDown_ignoresInputs (hexit : p.exitReq = s.ports.exitReq) : IgnoresInputs p rulePowerDown s := by
  unfold IgnoresInputs rulePowerDown finishAttempt exitNow
  rw [← hexit]
  rfl

/-! ### What a step reads -/

theorem sampleConfig_withInputs (hrst : p.rst = s.ports.rst) (hlines : p.reconfig = s.ports.reconfig) :
    sampleConfig (withInputs p s) = (sampleConfig s).map (withInputs p) := by
  have hr : (withInputs p s).ports.rst = s.ports.rst := hrst
  have hl : (withInputs p s).ports.reconfig = s.ports.reconfig := hlines
  unfold sampleConfig
  rw [hr, hl]
  cases s.ports.reconfig with
  | none => rfl
  | some c =>
    dsimp only
    rw [apply_ite (Option.map (withInputs p))]
    rfl

/-- An edge reads reset, the configuration lines, and what its rule reads under the configuration sampled, which in `Compute` is the
one held (R52). -/
theorem clockEdge_withInputs {rule : State → Result} (hrst : p.rst = s.ports.rst) (hlines : p.reconfig = s.ports.reconfig)
    (h : ∀ cfg : Config, cfg.wf = true → (s.state = 4 → cfg = s.cfg) → IgnoresInputs p rule { s with cfg := cfg }) :
    clockEdge rule (withInputs p s) = clockEdge rule s := by
  unfold clockEdge
  rw [sampleConfig_withInputs hrst hlines]
  cases hs : sampleConfig s with
  | none => rfl
  | some t =>
    obtain ⟨ht, -, hcfg⟩ := sampleConfig_cases hs
    obtain ⟨-, hports, -⟩ := sampleConfig_same hs
    have hreset : (withInputs p t).ports.rst = t.ports.rst := hrst.trans (congrArg Inputs.rst hports).symm
    refine ite_congr (congrArg (· = true) hreset) (fun _ => rfl) fun hr => ite_congr rfl (fun hw => ?_) fun _ => rfl
    have hheld : s.state = 4 → t.cfg = s.cfg := fun h4 => by
      rw [hports] at hr
      simpa [hr, h4] using hcfg
    have hrule := h t.cfg hw hheld
    rw [← ht] at hrule
    exact hrule.advance_eq

/-- The inputs agree with the ones at the ports wherever the current state has a rule that reads them (R200, R229, R234). The byte,
which the two windows read, is left to `runState_withByte`. -/
structure AgreesWhereRead (p : Inputs) (s : State) : Prop where
  reset : p.rst = s.ports.rst := by rfl
  lines : p.reconfig = s.ports.reconfig := by rfl
  byte : SameByte p s.ports := by exact ⟨rfl, rfl, rfl⟩
  exit : s.state ≠ 10 → p.exitReq = s.ports.exitReq := by exact fun _ => rfl
  start : s.state = 0 → p.startReq = s.ports.startReq := by exact fun _ => rfl
  tick : s.state ∈ ([1, 2, 6, 7, 8] : List (BitVec 4)) ∨ s.state = 5 ∧ s.txPhase = 2 → p.tick = s.ports.tick := by
    exact fun _ => rfl
  transport : s.state = 2 ∨ s.state = 6 ∨ s.state = 5 ∧ s.txPhase ≠ 0 → p.xportErr = s.ports.xportErr := by
    exact fun _ => rfl
  answer : s.state = 5 → s.txPhase = 1 → p.txDone = s.ports.txDone := by exact fun _ _ => rfl
  temperature : s.state = 4 → s.cfg.useSensor = true → p.refTemp = s.ports.refTemp := by exact fun _ _ => rfl

theorem stateStep_withInputs {rule : State → Result} (ha : AgreesWhereRead p s) (hexit : p.exitReq = s.ports.exitReq)
    (h : ∀ cfg : Config, cfg.wf = true → (s.state = 4 → cfg = s.cfg) → IgnoresInputs p rule (prelude { s with cfg := cfg })) :
    stateStep rule (withInputs p s) = stateStep rule s :=
  clockEdge_withInputs ha.reset ha.lines fun cfg hw hcfg =>
    IgnoresInputs.after_prelude (s := { s with cfg := cfg }) hexit (h cfg hw hcfg)

/-- A step tells apart no inputs that agree where the current state reads them. -/
theorem runState_withInputs (ha : AgreesWhereRead p s) : runState (withInputs p s) = runState s := by
  rw [← exec_decodeState (withInputs p s), ← exec_decodeState s, show (withInputs p s).state = s.state from rfl]
  by_cases h10 : s.state = 10
  · rw [h10]
    exact clockEdge_withInputs ha.reset ha.lines fun _ _ _ => rfl
  have hexit := ha.exit h10
  rcases runState_eq s with ⟨hs, -⟩ | ⟨hs, -⟩ | ⟨hs, -⟩ | ⟨hs, -⟩ | ⟨hs, -⟩ | ⟨hs, -⟩ | ⟨hs, -⟩ | ⟨hs, -⟩ | ⟨hs, -⟩ |
    ⟨hs, -⟩ | ⟨hs, -⟩ | ⟨hs, -⟩
  on_goal 11 => exact absurd hs h10
  on_goal 11 =>
    rw [decodeState_unused hs]
    exact clockEdge_withInputs ha.reset ha.lines fun _ _ _ => rfl
  all_goals rw [hs]
  · exact stateStep_withInputs ha hexit fun _ _ _ => ruleIdle_ignoresInputs hexit (ha.start hs)
  · exact stateStep_withInputs ha hexit fun _ _ _ => rulePowerUp_ignoresInputs hexit (ha.tick (by simp [hs]))
  · exact stateStep_withInputs ha hexit fun _ _ _ =>
      ruleAwaitInbound_ignoresInputs hexit (ha.tick (by simp [hs])) (ha.transport (.inl hs)) ha.byte
  · exact stateStep_withInputs ha hexit fun _ _ _ => ruleValidate_ignoresInputs hexit
  · exact stateStep_withInputs ha hexit fun _ _ hcfg =>
      ruleCompute_ignoresInputs hexit fun hsensor => ha.temperature hs (hcfg hs ▸ hsensor)
  · exact stateStep_withInputs ha hexit fun _ hw _ => ruleTransmit_ignoresInputs hw hexit
      (fun hp => ha.transport (.inr (.inr ⟨hs, hp⟩))) (ha.answer hs) (fun hp => ha.tick (.inr ⟨hs, hp⟩))
  · exact stateStep_withInputs ha hexit fun _ _ _ =>
      ruleAwaitAck_ignoresInputs hexit (ha.tick (by simp [hs])) (ha.transport (.inr (.inl hs))) ha.byte
  · exact stateStep_withInputs ha hexit fun _ _ _ => ruleHold_ignoresInputs hexit (ha.tick (by simp [hs]))
  · exact stateStep_withInputs ha hexit fun _ _ _ => ruleHold_ignoresInputs hexit (ha.tick (by simp [hs]))
  · exact stateStep_withInputs ha hexit fun _ _ _ => rulePowerDown_ignoresInputs hexit

theorem step_withInputs (hslot : s.slot = none) (ha : AgreesWhereRead p s) : step (withInputs p s) = step s := by
  rw [step_eq_runState hslot, step_eq_runState (s := withInputs p s) hslot, runState_withInputs ha]

end OtherInputs

/-- Settles O49: in each case the inputs agree wherever the state reads them; the byte outside the windows is not seen. -/
theorem inputsOutsideTheirStatesAreIgnored : Obligations.InputsOutsideTheirStatesAreIgnored := by
  intro s hslot
  refine ⟨fun v hs => ?startReq, fun v hs => ?txDone, fun v h2 h6 h5 => ?xportErr, fun v hs => ?tickNoTimer,
    fun v hs hp => ?tickInTransmit, fun v w x h2 h6 => ?byte, fun v hs => ?refTemp, fun v hs => ?exitReq⟩
  case startReq => exact step_withInputs hslot { start := fun h => absurd h hs }
  case txDone => exact step_withInputs hslot { answer := fun h hp => (hs.elim (· h) (· hp)).elim }
  case xportErr =>
    refine step_withInputs hslot { transport := fun h => ?_ }
    obtain h | h | ⟨h, hp⟩ := h
    · exact absurd h h2
    · exact absurd h h6
    · exact (h5.elim (· h) hp).elim
  case tickNoTimer =>
    refine step_withInputs hslot { tick := fun h => ?_ }
    rcases hs with hs | hs | hs | hs | hs <;> simp [hs] at h
  case tickInTransmit =>
    refine step_withInputs hslot { tick := fun h => ?_ }
    rcases hp with hp | hp <;> simp [hs, hp] at h
  case byte =>
    have hwindow : ¬(s.state = 2 ∨ s.state = 6) := not_or.mpr ⟨h2, h6⟩
    calc step (withByte v w x s) = runState (withByte v w x s) := step_eq_runState hslot
      _ = runState s := runState_withByte fun h => absurd h hwindow
      _ = step s := (step_eq_runState hslot).symm
  case refTemp =>
    refine step_withInputs hslot { temperature := fun h hsensor => ?_ }
    obtain hs | ⟨hs, -⟩ := hs
    · exact absurd h hs
    · exact absurd (hs.symm.trans hsensor) Bool.false_ne_true
  case exitReq => exact step_withInputs hslot { exit := fun h => absurd hs h }

end Sys2Proof.Machine
end

section
/-! PROOFS. The reset edge (O14), and that the ticks of a read window's deadline end it (O56). A step in a read window leaves it or
takes its tick off a timer that is still running; so the ticks still missing fall from step to step, whatever else arrives. -/

namespace Sys2Proof.Machine

/-! ### The reset edge -/

section ResetEdge

variable {i : Instr} {s : State}

theorem exec_stateOrPhaseRow_reset (hi : i ∈ stateRows.map Prod.fst ++ phaseRows.map Prod.fst) (hr : s.ports.rst = true) :
    exec i s = .next (advance (rowReset s)) := by
  obtain ⟨rule, hrule⟩ := exec_row_is_clockEdge hi
  rw [hrule, clockEdge_reset hr]

/-- Reset applies to the unused codes too (R220, U21). -/
theorem exec_stUnused_reset (c : BitVec 4) (hr : s.ports.rst = true) :
    exec (.stUnused c) s = .next (advance (rowReset s)) :=
  clockEdge_reset hr

/-- A code decodes to one of the eleven state rows or to the unused one (R70). -/
theorem decodeState_mem_or_unused :
    ∀ c, decodeState c ∈ stateRows.map Prod.fst ++ phaseRows.map Prod.fst ∨ decodeState c = .stUnused c := by
  decide

theorem runState_reset (hr : s.ports.rst = true) : runState s = .next (advance (rowReset s)) := by
  rw [← exec_decodeState]
  rcases decodeState_mem_or_unused s.state with hrow | hunused
  · exact exec_stateOrPhaseRow_reset hrow hr
  · rw [hunused]
    exact exec_stUnused_reset s.state hr

/-- The presented byte leaves the ports with the edge, so a reset edge shows nothing of it. -/
theorem rxEvent_reset (b : Byte) (ferr : Bool) (hr : s.ports.rst = true) :
    rxEvent b ferr s = .next (advance (rowReset s)) :=
  runState_reset (s := present b ferr s) hr

end ResetEdge

/-- Settles O14: every row named is a clock edge, a byte's row after presenting the byte, and so is the step. -/
theorem resetEdge : Obligations.ResetEdge := by
  refine fun s hr => ⟨fun i hi => ?_, fun hslot => (step_eq_runState hslot).trans (runState_reset hr)⟩
  obtain hrow | ⟨c, rfl⟩ | ⟨b, ferr, rfl⟩ | hchar := hi
  · exact exec_stateOrPhaseRow_reset hrow hr
  · exact exec_stUnused_reset c hr
  · exact rxEvent_reset b ferr hr
  · obtain ⟨p, hp, rfl⟩ := List.mem_map.mp hchar
    rw [exec_of_mem hp, rxEvent_reset p.2 false hr]

/-! ### One step in a read window -/

/-- From `s` to `u` the window stays open: the tick of the step is taken off the timer, which is still running (R175). -/
structure StaysWaiting (s u : State) : Prop where
  state : u.state = s.state
  running : ticksOf [s.ports] < s.timer
  timer : u.timer = s.timer - ticksOf [s.ports]
  cfg : u.cfg = s.cfg
  env : u.env = s.env

section WindowStep

variable {s : State} {c d : BitVec 4}

/-- An entry under the exit override leaves a state that is neither its target nor `PowerDown` (R157). -/
theorem orExit_state_ne {f : State → State} (ht : (f s).state = d) (hne : 9 ≠ c ∧ d ≠ c) : (orExit s f).state ≠ c := by
  unfold orExit
  split
  · exact hne.1
  · exact ht ▸ hne.2

/-- A complete or expired inbound window is left (R113). -/
theorem windowStep_state_ne (hover : s.rxCnt = 6 ∨ s.timer = 0) : (windowStep s).state ≠ 2 := by
  rw [windowStep, if_pos hover, ← decodeInbound_eq_orExit]
  rcases decodeInbound_cases s with ⟨-, heq⟩ | ⟨-, -, heq⟩ | ⟨-, -, heq⟩ <;> rw [heq]
  · exact orExit_state_ne (d := 8) rfl (by decide)
  · exact orExit_state_ne (d := 8) rfl (by decide)
  · exact orExit_state_ne (d := 3) rfl (by decide)

/-- The decision on the acknowledgement character leaves the window (R165). -/
theorem decideAck_state_ne (s : State) : (decideAck s).state ≠ 6 := by
  unfold decideAck
  split
  · exact orExit_state_ne (d := 7) rfl (by decide)
  · exact orExit_state_ne (d := 8) rfl (by decide)

theorem step_inbound_leavesOrWaits (h : Invariant s) (hs : s.state = 2) (ho : Ordinary s) :
    ∃ u, step s = .next (advance u) ∧ (u.state ≠ 2 ∨ StaysWaiting s u) := by
  have hrow : step s = execStAwaitinbound s := step_awaitInbound h.slot_free hs
  cases hx : s.ports.xportErr with
  | true =>
    exact ⟨_, hrow.trans (stateStep_of_rule ho (ruleAwaitInbound_transport (s := latched s) hx)),
      .inl (orExit_state_ne (d := 8) rfl (by decide))⟩
  | false =>
    obtain ⟨hroom, -, -⟩ := h.window_open hs
    refine ⟨_, hrow.trans (execStAwaitinbound_collected ho hx fun _ => hroom), ?_⟩
    by_cases hover : (collected [s.ports] s).rxCnt = 6 ∨ (collected [s.ports] s).timer = 0
    · exact .inl (windowStep_state_ne hover)
    · obtain ⟨hcnt, htimer⟩ := not_or.mp hover
      rw [windowStep_open hcnt htimer]
      exact .inr ⟨rfl, Nat.lt_of_sub_ne_zero htimer, rfl, rfl, rfl⟩

theorem step_ack_leavesOrWaits (h : Invariant s) (hs : s.state = 6) (ho : Ordinary s) :
    ∃ u, step s = .next (advance u) ∧ (u.state ≠ 6 ∨ StaysWaiting s u) := by
  have hrow : step s = execStAwaitack s := step_awaitAck h.slot_free hs
  obtain ⟨-, -, hack⟩ := h.frame_whole (by rw [hs]; decide)
  cases hx : s.ports.xportErr with
  | true =>
    exact ⟨_, hrow.trans (stateStep_of_rule ho (ruleAwaitAck_transport (s := latched s) hx)),
      .inl (orExit_state_ne (d := 8) rfl (by decide))⟩
  | false =>
    cases htakes : rxTakes s with
    | true => exact ⟨_, hrow.trans (execStAwaitack_some ho hx hack htakes), .inl (decideAck_state_ne _)⟩
    | false =>
      refine ⟨_, hrow.trans (execStAwaitack_none ho hx hack htakes), ?_⟩
      split
      case isTrue => exact .inl (orExit_state_ne (d := 8) rfl (by decide))
      case isFalse htimer => exact .inr ⟨rfl, Nat.lt_of_sub_ne_zero htimer, rfl, rfl, rfl⟩

/-- An ordinary step in a read window leaves it or goes on waiting (R161, R165). -/
theorem step_window_leavesOrWaits (h : Invariant s) (hs : s.state = 2 ∨ s.state = 6) (ho : Ordinary s) :
    ∃ u, step s = .next (advance u) ∧ (u.state ≠ s.state ∨ StaysWaiting s u) := by
  rcases hs with hs | hs
  · rw [hs]
    exact step_inbound_leavesOrWaits h hs ho
  · rw [hs]
    exact step_ack_leavesOrWaits h hs ho

end WindowStep

/-! ### The whole window -/

section Window

variable {n : Nat} {s t u : State}

theorem listed_advance (h : s.env ≠ []) : listed (advance s) = s.env := by
  obtain ⟨i, rest, henv⟩ := List.exists_cons_of_ne_nil h
  rw [listed, advance_ports, advance_env, henv]
  rfl

/-- The first step of an ordinary run is an ordinary one. -/
theorem ordinary_of_ordinaryFor (ho : OrdinaryFor (n + 1) s) : Ordinary s := by
  obtain ⟨-, hw, hall⟩ := ho
  obtain ⟨hrst, hlines⟩ := hall s.ports List.mem_cons_self
  exact ⟨hrst, hlines, hw⟩

/-- What is left of an ordinary run after its first step. -/
theorem ordinaryFor_of_listed (ho : OrdinaryFor (n + 1) s) (hlisted : listed t = s.env) (hcfg : t.cfg = s.cfg) :
    OrdinaryFor n t := by
  obtain ⟨hn, hw, hall⟩ := ho
  rw [OrdinaryFor, hlisted, hcfg]
  exact ⟨Nat.le_of_succ_le_succ hn, hw, fun i hi => hall i (List.mem_cons_of_mem _ hi)⟩

/-- After a step that leaves the window open, the ticks still missing are among the inputs after it. -/
theorem StaysWaiting.ticks_to_come (hwait : StaysWaiting s u) (hticks : s.timer ≤ ticksOf ((listed s).take (n + 1))) :
    0 < n ∧ listed (advance u) = s.env ∧ (advance u).timer ≤ ticksOf ((listed (advance u)).take n) := by
  have hsplit : ticksOf ((listed s).take (n + 1)) = ticksOf [s.ports] + ticksOf (s.env.take n) :=
    ticksOf_append [s.ports] (s.env.take n)
  have hrunning := hwait.running
  have hmore : s.env.take n ≠ [] := by
    intro hnil
    have hnone : ticksOf (s.env.take n) = 0 := by rw [hnil]; rfl
    omega
  obtain ⟨hn, henv⟩ : n ≠ 0 ∧ s.env ≠ [] := by rwa [Ne, List.take_eq_nil_iff, not_or] at hmore
  have hlisted : listed (advance u) = s.env := by rw [listed_advance (hwait.env ▸ henv), hwait.env]
  refine ⟨Nat.pos_of_ne_zero hn, hlisted, ?_⟩
  rw [hlisted, advance_timer, hwait.timer]
  omega

end Window

/-- Settles O56, by induction on the number of inputs: a step that does not leave the window leaves the same claim about the inputs
after it, with fewer ticks missing. -/
theorem readWindowsEndByTheirDeadline : Obligations.ReadWindowsEndByTheirDeadline := by
  intro s n
  induction n generalizing s with
  | zero => exact fun _ _ hn => absurd hn (Nat.lt_irrefl 0)
  | succ n ih =>
    intro h hs _ ho hticks
    obtain ⟨u, hstep, hleft | hwait⟩ := step_window_leavesOrWaits h hs (ordinary_of_ordinaryFor ho)
    · exact ⟨1, advance u, Nat.one_pos, n.succ_pos, (runSteps_one s).trans hstep, hleft⟩
    · obtain ⟨hn, hlisted, hlater⟩ := hwait.ticks_to_come hticks
      obtain ⟨m, t, hm, hmn, hrun, ht⟩ := ih (advance u) (invariantKeptByEveryStep s _ h hstep)
        (by rwa [advance_state, hwait.state]) hn (ordinaryFor_of_listed ho hlisted hwait.cfg) hlater
      refine ⟨m + 1, t, m.succ_pos, Nat.succ_le_succ hmn, ?_, ?_⟩
      · rw [runSteps, hstep, andThen_next, hrun]
      · rwa [advance_state, hwait.state] at ht

end Sys2Proof.Machine
end
